-- ==== Sys2Proof/Word.lean ====
section
/-! DEFINITION. The bit-vector types of the model: the words THE CORE computes on. -/

namespace Sys2Proof

/-- A slot wide enough for an XLEN-bit value at either XLEN (00_scope R6). At XLEN 32 it holds the
value zero-extended (assumption log 3). -/
abbrev Word := BitVec 64

/-- One byte of the memory collaborator (20_memory R50). -/
abbrev Byte := BitVec 8

/-- A 32-bit instruction word, and the `raw_word` of one step (00_scope R3). -/
abbrev IWord := BitVec 32

/-- A 16-bit compressed instruction word (30_encoding R71). -/
abbrev CWord := BitVec 16

/-- A 5-bit register field (30_encoding R74). -/
abbrev RegIx := BitVec 5

/-- A 3-bit compressed register field, naming registers 8 to 15 (40_compressed R120). -/
abbrev CRegIx := BitVec 3

/-- The value of a CSR, always 32 bits (10_state R27). -/
abbrev CsrWord := BitVec 32

end Sys2Proof
end

