-- ==== Sys2Proof/Machine/Flags.lean ====
section
/-! DEFINITION. The fields of mstatus and sstatus and their updates (10_state R29, R30). The hardware has no condition codes (10_state R26). -/

namespace Sys2Proof.Machine

/-- `s` with the `n` bits from bit `lo` up replaced by `v`. -/
def setField {n : Nat} (s : CsrWord) (lo : Nat) (v : BitVec n) : CsrWord :=
  (s &&& ~~~((BitVec.allOnes n).setWidth 32 <<< lo)) ||| (v.setWidth 32 <<< lo)

/-- mstatus.MIE, bit 3 (R29). -/
def mie (s : CsrWord) : BitVec 1 := s.extractLsb' 3 1

/-- mstatus.MPIE, bit 7 (R29). -/
def mpie (s : CsrWord) : BitVec 1 := s.extractLsb' 7 1

/-- mstatus.MPP, bits 12:11 (R29). -/
def mpp (s : CsrWord) : BitVec 2 := s.extractLsb' 11 2

/-- sstatus.SPIE, bit 5 (R30). -/
def spie (s : CsrWord) : BitVec 1 := s.extractLsb' 5 1

/-- sstatus.SPP, bit 8 (R30). -/
def spp (s : CsrWord) : BitVec 1 := s.extractLsb' 8 1

/-- mstatus as trap entry leaves it under TRAP_STACK = standard (60_exceptions R482): MPP takes the
privilege, MPIE takes MIE, MIE is cleared. -/
def mstatusOnTrap (priv : BitVec 2) (s : CsrWord) : CsrWord :=
  setField (setField (setField s 11 priv) 7 (mie s)) 3 0#1

/-- mstatus as MRET leaves it (45_system R283): MIE takes MPIE, MPIE is set, MPP becomes User. -/
def mstatusOnMret (s : CsrWord) : CsrWord :=
  setField (setField (setField s 3 (mpie s)) 7 1#1) 11 0#2

/-- sstatus as SRET leaves it (45_system R284): SIE takes SPIE, SPIE is set, SPP becomes User. -/
def sstatusOnSret (s : CsrWord) : CsrWord :=
  setField (setField (setField s 1 (spie s)) 5 1#1) 8 0#1

/-- The privilege SRET returns to (45_system R284). -/
def sretPriv (s : CsrWord) : BitVec 2 := if spp s = 1#1 then 1#2 else 0#2

end Sys2Proof.Machine
end

