-- ==== Sys2Proof/Config.lean ====
section
/-! DEFINITION. The implementation parameters of 00_scope R6 and the free values the spec leaves open. -/

namespace Sys2Proof

/-- The parameter `XLEN`: the width of an integer register (00_scope R6). -/
inductive XLen where
  | rv32
  | rv64
  deriving DecidableEq, Repr

/-- `XLEN` as a number of bits. -/
def XLen.bits : XLen → Nat
  | .rv32 => 32
  | .rv64 => 64

/-- The parameter `FETCH`: where instruction words come from (20_memory R64). -/
inductive Fetch where
  | stream
  | memory
  deriving DecidableEq, Repr

/-- The parameter `UNKNOWN_POLICY`: what executing kind Unknown does (45_system R305). -/
inductive UnknownPolicy where
  | skip
  | trap
  deriving DecidableEq, Repr

/-- The parameter `OOB_POLICY`: what an out-of-range access does (20_memory R53 to R55). -/
inductive OobPolicy where
  | zero
  | trap
  deriving DecidableEq, Repr

/-- The parameter `TRAP_CSRS`: which CSR pair a trap writes (60_exceptions R482). -/
inductive TrapCsrs where
  | machine
  | byLevel
  deriving DecidableEq, Repr

/-- The parameter `TRAP_STACK`: whether trap entry saves the privilege in mstatus (60_exceptions R482). -/
inductive TrapStack where
  | none
  | standard
  deriving DecidableEq, Repr

/-- The parameter `FP_NAN`: which NaN a NaN-producing operation returns (47_float_single R343). -/
inductive FpNan where
  | canonical
  | any
  deriving DecidableEq, Repr

/-- The parameter `END_OF_RUN`: when a run ends (70_reset_and_hazards R526). -/
inductive EndOfRun where
  | streamEnd
  | haltPc (a : Word)
  | fuel (n : Nat)
  deriving DecidableEq, Repr

/-- The parameters of 00_scope R6, "fixed for a whole run". They stand in State as data that no
step changes (assumption log 1). -/
structure Config where
  xlen : XLen
  memSize : Nat
  fetch : Fetch
  unknownPolicy : UnknownPolicy
  oobPolicy : OobPolicy
  trapCsrs : TrapCsrs
  trapStack : TrapStack
  fpNan : FpNan
  endOfRun : EndOfRun
  deriving DecidableEq, Repr

/-- The recommended values of 00_scope R6. The spec recommends neither XLEN: 64 is the model's
choice (assumption log 2). -/
def Config.recommended : Config where
  xlen := .rv64
  memSize := 1048576
  fetch := .stream
  unknownPolicy := .skip
  oobPolicy := .zero
  trapCsrs := .machine
  trapStack := .standard
  fpNan := .canonical
  endOfRun := .streamEnd

/-- The free binary32 pattern from which `FP_NAN = any` takes its NaN: nothing constrains it
(47_float_single R343, assumption log 7). DESIGN CHOICE, safe. -/
opaque Config.freeBits32 : Nat → BitVec 32

/-- The free binary64 pattern from which `FP_NAN = any` takes its NaN (47_float_single R343,
assumption log 7). DESIGN CHOICE, safe. -/
opaque Config.freeBits64 : Nat → BitVec 64

end Sys2Proof
end

