-- ==== Sys2Proof/Syntax.lean ====
section
/-! DEFINITION. The instructions: one constructor per row of the opcode table (30_encoding, 40_compressed). -/

namespace Sys2Proof

/-- The rounding-mode field of an instruction that rounds (47_float_single R342). The values 5 and
6 are no rounding mode: a word holding one is kind Unknown (30_encoding R105). -/
inductive Rm where
  | rne
  | rtz
  | rdn
  | rup
  | rmm
  | dyn
  deriving DecidableEq, Repr

/-- The closed enumeration of instruction kinds (30_encoding R72, R110), and the compressed words
that expand to them (40_compressed R120). Kind Unknown is no constructor: the decoder answers it by
name (assumption log 10). `rd`, `rs1`, `rs2` and `rs3` name registers of the file that 30_encoding
R84 gives them. -/
inductive Instr where
  /- Upper immediates (41_alu R200, R201). `imm` is bits 31:12 of the word (30_encoding R79). -/
  | lui (rd : RegIx) (imm : BitVec 20)
  | auipc (rd : RegIx) (imm : BitVec 20)
  /- Jumps (44_control R275, R276). `off` is bits 20:1 of the J-immediate (30_encoding R81). -/
  | jal (rd : RegIx) (off : BitVec 20)
  | jalr (rd rs1 : RegIx) (imm : BitVec 12)
  /- Branches (44_control R261 to R266). `off` is bits 12:1 of the B-immediate (30_encoding R80). -/
  | beq (rs1 rs2 : RegIx) (off : BitVec 12)
  | bne (rs1 rs2 : RegIx) (off : BitVec 12)
  | blt (rs1 rs2 : RegIx) (off : BitVec 12)
  | bge (rs1 rs2 : RegIx) (off : BitVec 12)
  | bltu (rs1 rs2 : RegIx) (off : BitVec 12)
  | bgeu (rs1 rs2 : RegIx) (off : BitVec 12)
  /- Loads and stores (43_load_store). -/
  | lb (rd rs1 : RegIx) (imm : BitVec 12)
  | lh (rd rs1 : RegIx) (imm : BitVec 12)
  | lw (rd rs1 : RegIx) (imm : BitVec 12)
  | ld (rd rs1 : RegIx) (imm : BitVec 12)
  | lbu (rd rs1 : RegIx) (imm : BitVec 12)
  | lhu (rd rs1 : RegIx) (imm : BitVec 12)
  | lwu (rd rs1 : RegIx) (imm : BitVec 12)
  | sb (rs1 rs2 : RegIx) (imm : BitVec 12)
  | sh (rs1 rs2 : RegIx) (imm : BitVec 12)
  | sw (rs1 rs2 : RegIx) (imm : BitVec 12)
  | sd (rs1 rs2 : RegIx) (imm : BitVec 12)
  /- Register-immediate (41_alu R191 to R199). `shamt` is w[25:20] (30_encoding R82): at XLEN 32 its
  top bit is 0 in a well-formed instruction. -/
  | addi (rd rs1 : RegIx) (imm : BitVec 12)
  | slti (rd rs1 : RegIx) (imm : BitVec 12)
  | sltiu (rd rs1 : RegIx) (imm : BitVec 12)
  | xori (rd rs1 : RegIx) (imm : BitVec 12)
  | ori (rd rs1 : RegIx) (imm : BitVec 12)
  | andi (rd rs1 : RegIx) (imm : BitVec 12)
  | slli (rd rs1 : RegIx) (shamt : BitVec 6)
  | srli (rd rs1 : RegIx) (shamt : BitVec 6)
  | srai (rd rs1 : RegIx) (shamt : BitVec 6)
  /- Register-register (41_alu R181 to R190). -/
  | add (rd rs1 rs2 : RegIx)
  | sub (rd rs1 rs2 : RegIx)
  | sll (rd rs1 rs2 : RegIx)
  | slt (rd rs1 rs2 : RegIx)
  | sltu (rd rs1 rs2 : RegIx)
  | xor (rd rs1 rs2 : RegIx)
  | srl (rd rs1 rs2 : RegIx)
  | sra (rd rs1 rs2 : RegIx)
  | or (rd rs1 rs2 : RegIx)
  | and (rd rs1 rs2 : RegIx)
  /- Fences and system instructions (45_system). Fields the decoder does not check (30_encoding R88,
  R103) are kept, so that the word can be written back. -/
  | fence (fm pred succ : BitVec 4) (rs1 rd : RegIx)
  | fenceI (imm : BitVec 12) (rs1 rd : RegIx)
  | ecall (rs1 rd : RegIx)
  | ebreak (rs1 rd : RegIx)
  | uret (rs1 rd : RegIx)
  | sret (rs1 rd : RegIx)
  | mret (rs1 rd : RegIx)
  | wfi (rs1 rd : RegIx)
  | sfenceVma (rs1 rs2 rd : RegIx)
  | csrrw (rd : RegIx) (csr : BitVec 12) (rs1 : RegIx)
  | csrrs (rd : RegIx) (csr : BitVec 12) (rs1 : RegIx)
  | csrrc (rd : RegIx) (csr : BitVec 12) (rs1 : RegIx)
  | csrrwi (rd : RegIx) (csr : BitVec 12) (zimm : BitVec 5)
  | csrrsi (rd : RegIx) (csr : BitVec 12) (zimm : BitVec 5)
  | csrrci (rd : RegIx) (csr : BitVec 12) (zimm : BitVec 5)
  /- Multiply and divide (42_muldiv). -/
  | mul (rd rs1 rs2 : RegIx)
  | mulh (rd rs1 rs2 : RegIx)
  | mulhsu (rd rs1 rs2 : RegIx)
  | mulhu (rd rs1 rs2 : RegIx)
  | div (rd rs1 rs2 : RegIx)
  | divu (rd rs1 rs2 : RegIx)
  | rem (rd rs1 rs2 : RegIx)
  | remu (rd rs1 rs2 : RegIx)
  /- RV64 word operations (49_word_ops). -/
  | addiw (rd rs1 : RegIx) (imm : BitVec 12)
  | slliw (rd rs1 : RegIx) (shamt : BitVec 5)
  | srliw (rd rs1 : RegIx) (shamt : BitVec 5)
  | sraiw (rd rs1 : RegIx) (shamt : BitVec 5)
  | addw (rd rs1 rs2 : RegIx)
  | subw (rd rs1 rs2 : RegIx)
  | sllw (rd rs1 rs2 : RegIx)
  | srlw (rd rs1 rs2 : RegIx)
  | sraw (rd rs1 rs2 : RegIx)
  | mulw (rd rs1 rs2 : RegIx)
  | divw (rd rs1 rs2 : RegIx)
  | divuw (rd rs1 rs2 : RegIx)
  | remw (rd rs1 rs2 : RegIx)
  | remuw (rd rs1 rs2 : RegIx)
  /- Atomics (46_atomic). LR does not check rs2, nothing reads aq and rl (30_encoding R94). -/
  | lrW (rd rs1 rs2 : RegIx) (aq rl : BitVec 1)
  | scW (rd rs1 rs2 : RegIx) (aq rl : BitVec 1)
  | amoswapW (rd rs1 rs2 : RegIx) (aq rl : BitVec 1)
  | amoaddW (rd rs1 rs2 : RegIx) (aq rl : BitVec 1)
  | amoxorW (rd rs1 rs2 : RegIx) (aq rl : BitVec 1)
  | amoandW (rd rs1 rs2 : RegIx) (aq rl : BitVec 1)
  | amoorW (rd rs1 rs2 : RegIx) (aq rl : BitVec 1)
  | amominW (rd rs1 rs2 : RegIx) (aq rl : BitVec 1)
  | amomaxW (rd rs1 rs2 : RegIx) (aq rl : BitVec 1)
  | amominuW (rd rs1 rs2 : RegIx) (aq rl : BitVec 1)
  | amomaxuW (rd rs1 rs2 : RegIx) (aq rl : BitVec 1)
  | lrD (rd rs1 rs2 : RegIx) (aq rl : BitVec 1)
  | scD (rd rs1 rs2 : RegIx) (aq rl : BitVec 1)
  | amoswapD (rd rs1 rs2 : RegIx) (aq rl : BitVec 1)
  | amoaddD (rd rs1 rs2 : RegIx) (aq rl : BitVec 1)
  | amoxorD (rd rs1 rs2 : RegIx) (aq rl : BitVec 1)
  | amoandD (rd rs1 rs2 : RegIx) (aq rl : BitVec 1)
  | amoorD (rd rs1 rs2 : RegIx) (aq rl : BitVec 1)
  | amominD (rd rs1 rs2 : RegIx) (aq rl : BitVec 1)
  | amomaxD (rd rs1 rs2 : RegIx) (aq rl : BitVec 1)
  | amominuD (rd rs1 rs2 : RegIx) (aq rl : BitVec 1)
  | amomaxuD (rd rs1 rs2 : RegIx) (aq rl : BitVec 1)
  /- Floating-point loads and stores (47_float_single R380, R381; 48_float_double R420, R421). -/
  | flw (rd rs1 : RegIx) (imm : BitVec 12)
  | fld (rd rs1 : RegIx) (imm : BitVec 12)
  | fsw (rs1 rs2 : RegIx) (imm : BitVec 12)
  | fsd (rs1 rs2 : RegIx) (imm : BitVec 12)
  /- Single-precision arithmetic, conversions and moves (47_float_single). -/
  | fmaddS (rd rs1 rs2 rs3 : RegIx) (rm : Rm)
  | fmsubS (rd rs1 rs2 rs3 : RegIx) (rm : Rm)
  | fnmsubS (rd rs1 rs2 rs3 : RegIx) (rm : Rm)
  | fnmaddS (rd rs1 rs2 rs3 : RegIx) (rm : Rm)
  | faddS (rd rs1 rs2 : RegIx) (rm : Rm)
  | fsubS (rd rs1 rs2 : RegIx) (rm : Rm)
  | fmulS (rd rs1 rs2 : RegIx) (rm : Rm)
  | fdivS (rd rs1 rs2 : RegIx) (rm : Rm)
  | fsqrtS (rd rs1 : RegIx) (rm : Rm)
  | fsgnjS (rd rs1 rs2 : RegIx)
  | fsgnjnS (rd rs1 rs2 : RegIx)
  | fsgnjxS (rd rs1 rs2 : RegIx)
  | fminS (rd rs1 rs2 : RegIx)
  | fmaxS (rd rs1 rs2 : RegIx)
  | fleS (rd rs1 rs2 : RegIx)
  | fltS (rd rs1 rs2 : RegIx)
  | feqS (rd rs1 rs2 : RegIx)
  | fcvtWS (rd rs1 : RegIx) (rm : Rm)
  | fcvtWuS (rd rs1 : RegIx) (rm : Rm)
  | fcvtLS (rd rs1 : RegIx) (rm : Rm)
  | fcvtLuS (rd rs1 : RegIx) (rm : Rm)
  | fcvtSW (rd rs1 : RegIx) (rm : Rm)
  | fcvtSWu (rd rs1 : RegIx) (rm : Rm)
  | fcvtSL (rd rs1 : RegIx) (rm : Rm)
  | fcvtSLu (rd rs1 : RegIx) (rm : Rm)
  | fclassS (rd rs1 : RegIx)
  | fmvXW (rd rs1 : RegIx)
  | fmvWX (rd rs1 : RegIx)
  /- Double-precision arithmetic, conversions and moves (48_float_double). -/
  | fmaddD (rd rs1 rs2 rs3 : RegIx) (rm : Rm)
  | fmsubD (rd rs1 rs2 rs3 : RegIx) (rm : Rm)
  | fnmsubD (rd rs1 rs2 rs3 : RegIx) (rm : Rm)
  | fnmaddD (rd rs1 rs2 rs3 : RegIx) (rm : Rm)
  | faddD (rd rs1 rs2 : RegIx) (rm : Rm)
  | fsubD (rd rs1 rs2 : RegIx) (rm : Rm)
  | fmulD (rd rs1 rs2 : RegIx) (rm : Rm)
  | fdivD (rd rs1 rs2 : RegIx) (rm : Rm)
  | fsqrtD (rd rs1 : RegIx) (rm : Rm)
  | fsgnjD (rd rs1 rs2 : RegIx)
  | fsgnjnD (rd rs1 rs2 : RegIx)
  | fsgnjxD (rd rs1 rs2 : RegIx)
  | fminD (rd rs1 rs2 : RegIx)
  | fmaxD (rd rs1 rs2 : RegIx)
  | fleD (rd rs1 rs2 : RegIx)
  | fltD (rd rs1 rs2 : RegIx)
  | feqD (rd rs1 rs2 : RegIx)
  | fcvtWD (rd rs1 : RegIx) (rm : Rm)
  | fcvtWuD (rd rs1 : RegIx) (rm : Rm)
  | fcvtLD (rd rs1 : RegIx) (rm : Rm)
  | fcvtLuD (rd rs1 : RegIx) (rm : Rm)
  | fcvtDW (rd rs1 : RegIx) (rm : Rm)
  | fcvtDWu (rd rs1 : RegIx) (rm : Rm)
  | fcvtDL (rd rs1 : RegIx) (rm : Rm)
  | fcvtDLu (rd rs1 : RegIx) (rm : Rm)
  | fclassD (rd rs1 : RegIx)
  | fmvXD (rd rs1 : RegIx)
  | fmvDX (rd rs1 : RegIx)
  | fcvtSD (rd rs1 : RegIx) (rm : Rm)
  | fcvtDS (rd rs1 : RegIx) (rm : Rm)
  /- A SYSTEM word with funct3 0 whose funct12 no other row matches: kind FENCE (30_encoding R103,
  45_system R291, 90_conflicts C11). -/
  | fenceSystem (funct12 : BitVec 12) (rs1 rd : RegIx)
  /- Compressed instructions (40_compressed R124 to R165). Immediates and offsets are held unscaled,
  their always-zero low bits left out. -/
  | cAddi4spn (rd : CRegIx) (imm : BitVec 8)
  | cFld (rd rs1 : CRegIx) (imm : BitVec 5)
  | cLw (rd rs1 : CRegIx) (imm : BitVec 5)
  | cFlw (rd rs1 : CRegIx) (imm : BitVec 5)
  | cLd (rd rs1 : CRegIx) (imm : BitVec 5)
  | cFsd (rs1 rs2 : CRegIx) (imm : BitVec 5)
  | cSw (rs1 rs2 : CRegIx) (imm : BitVec 5)
  | cFsw (rs1 rs2 : CRegIx) (imm : BitVec 5)
  | cSd (rs1 rs2 : CRegIx) (imm : BitVec 5)
  | cNop (imm : BitVec 6)
  | cAddi (rd : RegIx) (imm : BitVec 6)
  | cJal (off : BitVec 11)
  | cAddiw (rd : RegIx) (imm : BitVec 6)
  | cLi (rd : RegIx) (imm : BitVec 6)
  | cAddi16sp (imm : BitVec 6)
  | cLui (rd : RegIx) (imm : BitVec 6)
  | cSrli (rd : CRegIx) (shamt : BitVec 6)
  | cSrai (rd : CRegIx) (shamt : BitVec 6)
  | cAndi (rd : CRegIx) (imm : BitVec 6)
  | cSub (rd rs2 : CRegIx)
  | cXor (rd rs2 : CRegIx)
  | cOr (rd rs2 : CRegIx)
  | cAnd (rd rs2 : CRegIx)
  | cSubw (rd rs2 : CRegIx)
  | cAddw (rd rs2 : CRegIx)
  | cJ (off : BitVec 11)
  | cBeqz (rs1 : CRegIx) (off : BitVec 8)
  | cBnez (rs1 : CRegIx) (off : BitVec 8)
  | cSlli (rd : RegIx) (shamt : BitVec 6)
  | cFldsp (rd : RegIx) (imm : BitVec 6)
  | cLwsp (rd : RegIx) (imm : BitVec 6)
  | cFlwsp (rd : RegIx) (imm : BitVec 6)
  | cLdsp (rd : RegIx) (imm : BitVec 6)
  | cJr (rs1 : RegIx)
  | cMv (rd rs2 : RegIx)
  | cEbreak
  | cJalr (rs1 : RegIx)
  | cAdd (rd rs2 : RegIx)
  | cFsdsp (rs2 : RegIx) (imm : BitVec 6)
  | cSwsp (rs2 : RegIx) (imm : BitVec 6)
  | cFswsp (rs2 : RegIx) (imm : BitVec 6)
  | cSdsp (rs2 : RegIx) (imm : BitVec 6)
  deriving DecidableEq, Repr

end Sys2Proof
end

