-- ==== Sys2Proof/WellFormed.lean ====
section
/-! DEFINITION. Which instructions exist at an XLEN and which field values they admit (30_encoding R106, 40_compressed R121). -/

namespace Sys2Proof

/-- The XLENs at which an instruction exists. -/
inductive Avail where
  | both
  | only64
  | only32
  deriving DecidableEq, Repr

/-- XLEN gating: 30_encoding R106 for the 32-bit words, 40_compressed R120 for the compressed ones. -/
def Instr.avail : Instr → Avail
  | .ld .. | .lwu .. | .sd .. | .addiw .. | .slliw .. | .srliw .. | .sraiw .. | .addw ..
  | .subw .. | .sllw .. | .srlw .. | .sraw .. | .mulw .. | .divw .. | .divuw .. | .remw ..
  | .remuw .. | .lrD .. | .scD .. | .amoswapD .. | .amoaddD .. | .amoxorD .. | .amoandD ..
  | .amoorD .. | .amominD .. | .amomaxD .. | .amominuD .. | .amomaxuD .. | .fcvtLS ..
  | .fcvtLuS .. | .fcvtSL .. | .fcvtSLu .. | .fcvtLD .. | .fcvtLuD .. | .fcvtDL .. | .fcvtDLu ..
  | .fmvXD .. | .fmvDX .. | .cLd .. | .cSd .. | .cAddiw .. | .cSubw .. | .cAddw .. | .cLdsp ..
  | .cSdsp .. => .only64
  | .cFlw .. | .cFsw .. | .cJal .. | .cFlwsp .. | .cFswsp .. => .only32
  | .lui .. | .auipc .. | .jal .. | .jalr .. | .beq .. | .bne .. | .blt .. | .bge .. | .bltu ..
  | .bgeu .. | .lb .. | .lh .. | .lw .. | .lbu .. | .lhu .. | .sb .. | .sh .. | .sw .. | .addi ..
  | .slti .. | .sltiu .. | .xori .. | .ori .. | .andi .. | .slli .. | .srli .. | .srai ..
  | .add .. | .sub .. | .sll .. | .slt .. | .sltu .. | .xor .. | .srl .. | .sra .. | .or ..
  | .and .. | .fence .. | .fenceI .. | .ecall .. | .ebreak .. | .uret .. | .sret .. | .mret ..
  | .wfi .. | .sfenceVma .. | .csrrw .. | .csrrs .. | .csrrc .. | .csrrwi .. | .csrrsi ..
  | .csrrci .. | .mul .. | .mulh .. | .mulhsu .. | .mulhu .. | .div .. | .divu .. | .rem ..
  | .remu .. | .lrW .. | .scW .. | .amoswapW .. | .amoaddW .. | .amoxorW .. | .amoandW ..
  | .amoorW .. | .amominW .. | .amomaxW .. | .amominuW .. | .amomaxuW .. | .flw .. | .fld ..
  | .fsw .. | .fsd .. | .fmaddS .. | .fmsubS .. | .fnmsubS .. | .fnmaddS .. | .faddS ..
  | .fsubS .. | .fmulS .. | .fdivS .. | .fsqrtS .. | .fsgnjS .. | .fsgnjnS .. | .fsgnjxS ..
  | .fminS .. | .fmaxS .. | .fleS .. | .fltS .. | .feqS .. | .fcvtWS .. | .fcvtWuS ..
  | .fcvtSW .. | .fcvtSWu .. | .fclassS .. | .fmvXW .. | .fmvWX .. | .fmaddD .. | .fmsubD ..
  | .fnmsubD .. | .fnmaddD .. | .faddD .. | .fsubD .. | .fmulD .. | .fdivD .. | .fsqrtD ..
  | .fsgnjD .. | .fsgnjnD .. | .fsgnjxD .. | .fminD .. | .fmaxD .. | .fleD .. | .fltD ..
  | .feqD .. | .fcvtWD .. | .fcvtWuD .. | .fcvtDW .. | .fcvtDWu .. | .fclassD .. | .fcvtSD ..
  | .fcvtDS .. | .fenceSystem .. | .cAddi4spn .. | .cFld .. | .cLw .. | .cFsd .. | .cSw ..
  | .cNop .. | .cAddi .. | .cLi .. | .cAddi16sp .. | .cLui .. | .cSrli .. | .cSrai .. | .cAndi ..
  | .cSub .. | .cXor .. | .cOr .. | .cAnd .. | .cJ .. | .cBeqz .. | .cBnez .. | .cSlli ..
  | .cFldsp .. | .cLwsp .. | .cJr .. | .cMv .. | .cEbreak | .cJalr .. | .cAdd .. | .cFsdsp ..
  | .cSwsp .. => .both

/-- The instruction exists at this XLEN. -/
def Instr.existsAt (xl : XLen) (i : Instr) : Bool :=
  match i.avail, xl with
  | .both, _ => true
  | .only64, .rv64 => true
  | .only64, .rv32 => false
  | .only32, .rv32 => true
  | .only32, .rv64 => false

/-- A shift amount of XLEN 32 has 5 bits (30_encoding R82, R106; 40_compressed R121). -/
def shamtOk (xl : XLen) (shamt : BitVec 6) : Bool :=
  match xl with
  | .rv32 => shamt.toNat < 32
  | .rv64 => true

/-- The funct12 values of SYSTEM with funct3 0 that fall back to kind FENCE: those that no other
row claims (30_encoding R103). -/
def fallsBackToFence (funct12 : BitVec 12) : Bool :=
  funct12 != 0x000 && funct12 != 0x001 && funct12 != 0x002 && funct12 != 0x102 &&
    funct12 != 0x302 && funct12 != 0x105 && funct12.extractLsb' 5 7 != 0x09#7

/-- The field values an instruction admits: shift amounts (30_encoding R106), the fallback funct12
values (R103), and the compressed words that are neither reserved (40_compressed R121) nor the word
of another compressed instruction (C.NOP, C.ADDI16SP, C.JR, C.JALR, C.EBREAK). -/
def Instr.fieldsOk (xl : XLen) : Instr → Bool
  | .slli _ _ shamt => shamtOk xl shamt
  | .srli _ _ shamt => shamtOk xl shamt
  | .srai _ _ shamt => shamtOk xl shamt
  | .fenceSystem funct12 _ _ => fallsBackToFence funct12
  | .cAddi4spn _ imm => imm != 0
  | .cAddi rd _ => rd != 0
  | .cAddiw rd _ => rd != 0
  | .cAddi16sp imm => imm != 0
  | .cLui rd imm => rd != 2 && imm != 0
  | .cSrli _ shamt => shamtOk xl shamt
  | .cSrai _ shamt => shamtOk xl shamt
  | .cSlli _ shamt => shamtOk xl shamt
  | .cLwsp rd _ => rd != 0
  | .cLdsp rd _ => rd != 0
  | .cJr rs1 => rs1 != 0
  | .cMv _ rs2 => rs2 != 0
  | .cJalr rs1 => rs1 != 0
  | .cAdd _ rs2 => rs2 != 0
  | .lui .. | .auipc .. | .jal .. | .jalr .. | .beq .. | .bne .. | .blt .. | .bge .. | .bltu ..
  | .bgeu .. | .lb .. | .lh .. | .lw .. | .ld .. | .lbu .. | .lhu .. | .lwu .. | .sb .. | .sh ..
  | .sw .. | .sd .. | .addi .. | .slti .. | .sltiu .. | .xori .. | .ori .. | .andi .. | .add ..
  | .sub .. | .sll .. | .slt .. | .sltu .. | .xor .. | .srl .. | .sra .. | .or .. | .and ..
  | .fence .. | .fenceI .. | .ecall .. | .ebreak .. | .uret .. | .sret .. | .mret .. | .wfi ..
  | .sfenceVma .. | .csrrw .. | .csrrs .. | .csrrc .. | .csrrwi .. | .csrrsi .. | .csrrci ..
  | .mul .. | .mulh .. | .mulhsu .. | .mulhu .. | .div .. | .divu .. | .rem .. | .remu ..
  | .addiw .. | .slliw .. | .srliw .. | .sraiw .. | .addw .. | .subw .. | .sllw .. | .srlw ..
  | .sraw .. | .mulw .. | .divw .. | .divuw .. | .remw .. | .remuw .. | .lrW .. | .scW ..
  | .amoswapW .. | .amoaddW .. | .amoxorW .. | .amoandW .. | .amoorW .. | .amominW ..
  | .amomaxW .. | .amominuW .. | .amomaxuW .. | .lrD .. | .scD .. | .amoswapD .. | .amoaddD ..
  | .amoxorD .. | .amoandD .. | .amoorD .. | .amominD .. | .amomaxD .. | .amominuD ..
  | .amomaxuD .. | .flw .. | .fld .. | .fsw .. | .fsd .. | .fmaddS .. | .fmsubS .. | .fnmsubS ..
  | .fnmaddS .. | .faddS .. | .fsubS .. | .fmulS .. | .fdivS .. | .fsqrtS .. | .fsgnjS ..
  | .fsgnjnS .. | .fsgnjxS .. | .fminS .. | .fmaxS .. | .fleS .. | .fltS .. | .feqS ..
  | .fcvtWS .. | .fcvtWuS .. | .fcvtLS .. | .fcvtLuS .. | .fcvtSW .. | .fcvtSWu .. | .fcvtSL ..
  | .fcvtSLu .. | .fclassS .. | .fmvXW .. | .fmvWX .. | .fmaddD .. | .fmsubD .. | .fnmsubD ..
  | .fnmaddD .. | .faddD .. | .fsubD .. | .fmulD .. | .fdivD .. | .fsqrtD .. | .fsgnjD ..
  | .fsgnjnD .. | .fsgnjxD .. | .fminD .. | .fmaxD .. | .fleD .. | .fltD .. | .feqD ..
  | .fcvtWD .. | .fcvtWuD .. | .fcvtLD .. | .fcvtLuD .. | .fcvtDW .. | .fcvtDWu .. | .fcvtDL ..
  | .fcvtDLu .. | .fclassD .. | .fmvXD .. | .fmvDX .. | .fcvtSD .. | .fcvtDS .. | .cFld ..
  | .cLw .. | .cFlw .. | .cLd .. | .cFsd .. | .cSw .. | .cFsw .. | .cSd .. | .cNop .. | .cJal ..
  | .cLi .. | .cAndi .. | .cSub .. | .cXor .. | .cOr .. | .cAnd .. | .cSubw .. | .cAddw ..
  | .cJ .. | .cBeqz .. | .cBnez .. | .cFldsp .. | .cFlwsp .. | .cEbreak | .cFsdsp .. | .cSwsp ..
  | .cFswsp .. | .cSdsp .. => true

/-- Well-formed at an XLEN: the instructions that some word of that XLEN decodes to. -/
def Instr.wf (xl : XLen) (i : Instr) : Bool := i.existsAt xl && i.fieldsOk xl

end Sys2Proof
end

