-- ==== Sys2Proof/Decode.lean ====
section
/-! DEFINITION. The decoder (30_encoding, 40_compressed), total on every word and rejecting by name, and the encoder written from the same tables. -/

namespace Sys2Proof

/-! ## Fields of a 32-bit word (30_encoding R74, R76 to R83) -/

namespace Fld

def opcode (w : IWord) : BitVec 7 := w.extractLsb' 0 7
def rd (w : IWord) : RegIx := w.extractLsb' 7 5
def funct3 (w : IWord) : BitVec 3 := w.extractLsb' 12 3
def rs1 (w : IWord) : RegIx := w.extractLsb' 15 5
def rs2 (w : IWord) : RegIx := w.extractLsb' 20 5
def rs3 (w : IWord) : RegIx := w.extractLsb' 27 5
def funct7 (w : IWord) : BitVec 7 := w.extractLsb' 25 7
def funct6 (w : IWord) : BitVec 6 := w.extractLsb' 26 6
def funct12 (w : IWord) : BitVec 12 := w.extractLsb' 20 12
def funct5 (w : IWord) : BitVec 5 := w.extractLsb' 27 5
def fmt (w : IWord) : BitVec 2 := w.extractLsb' 25 2
def aq (w : IWord) : BitVec 1 := w.extractLsb' 26 1
def rl (w : IWord) : BitVec 1 := w.extractLsb' 25 1
def shamt (w : IWord) : BitVec 6 := w.extractLsb' 20 6
def shamt5 (w : IWord) : BitVec 5 := w.extractLsb' 20 5
def csr (w : IWord) : BitVec 12 := w.extractLsb' 20 12
def zimm (w : IWord) : BitVec 5 := w.extractLsb' 15 5
def fm (w : IWord) : BitVec 4 := w.extractLsb' 28 4
def pred (w : IWord) : BitVec 4 := w.extractLsb' 24 4
def succ (w : IWord) : BitVec 4 := w.extractLsb' 20 4

/-- Bits 11:0 of the I-immediate (R77). -/
def immI (w : IWord) : BitVec 12 := w.extractLsb' 20 12

/-- Bits 11:0 of the S-immediate (R78). -/
def immS (w : IWord) : BitVec 12 := w.extractLsb' 25 7 ++ w.extractLsb' 7 5

/-- Bits 31:12 of the U-immediate (R79). -/
def immU (w : IWord) : BitVec 20 := w.extractLsb' 12 20

/-- Bits 12:1 of the B-immediate (R80). -/
def offB (w : IWord) : BitVec 12 :=
  w.extractLsb' 31 1 ++ w.extractLsb' 7 1 ++ w.extractLsb' 25 6 ++ w.extractLsb' 8 4

/-- Bits 20:1 of the J-immediate (R81). -/
def offJ (w : IWord) : BitVec 20 :=
  w.extractLsb' 31 1 ++ w.extractLsb' 12 8 ++ w.extractLsb' 20 1 ++ w.extractLsb' 21 10

end Fld

/-- The rounding mode of a 3-bit field, none for the reserved values 5 and 6 (30_encoding R105,
47_float_single R342). -/
def Rm.ofBits : BitVec 3 → Option Rm
  | 0#3 => some .rne
  | 1#3 => some .rtz
  | 2#3 => some .rdn
  | 3#3 => some .rup
  | 4#3 => some .rmm
  | 7#3 => some .dyn
  | _ => none

/-- The field value of a rounding mode (47_float_single R342). -/
def Rm.bits : Rm → BitVec 3
  | .rne => 0#3
  | .rtz => 1#3
  | .rdn => 2#3
  | .rup => 3#3
  | .rmm => 4#3
  | .dyn => 7#3

/-! ## Decoding a 32-bit word (30_encoding R85 to R106) -/

/-- A kind that exists at XLEN 64 only (R106). -/
def only64 (xl : XLen) (i : Instr) : Option Instr :=
  match xl with
  | .rv32 => none
  | .rv64 => some i

/-- A kind whose funct3 is a rounding mode (R105). -/
def withRm (w : IWord) (k : Rm → Instr) : Option Instr := (Rm.ofBits (Fld.funct3 w)).map k

/-- As `withRm`, at XLEN 64 only. -/
def withRm64 (xl : XLen) (w : IWord) (k : Rm → Instr) : Option Instr :=
  match xl with
  | .rv32 => none
  | .rv64 => withRm w k

/-- LOAD (R86). -/
def decodeLoad (xl : XLen) (w : IWord) : Option Instr :=
  match Fld.funct3 w with
  | 0#3 => some (.lb (Fld.rd w) (Fld.rs1 w) (Fld.immI w))
  | 1#3 => some (.lh (Fld.rd w) (Fld.rs1 w) (Fld.immI w))
  | 2#3 => some (.lw (Fld.rd w) (Fld.rs1 w) (Fld.immI w))
  | 3#3 => only64 xl (.ld (Fld.rd w) (Fld.rs1 w) (Fld.immI w))
  | 4#3 => some (.lbu (Fld.rd w) (Fld.rs1 w) (Fld.immI w))
  | 5#3 => some (.lhu (Fld.rd w) (Fld.rs1 w) (Fld.immI w))
  | 6#3 => only64 xl (.lwu (Fld.rd w) (Fld.rs1 w) (Fld.immI w))
  | _ => none

/-- LOAD-FP (R87). -/
def decodeLoadFp (w : IWord) : Option Instr :=
  match Fld.funct3 w with
  | 2#3 => some (.flw (Fld.rd w) (Fld.rs1 w) (Fld.immI w))
  | 3#3 => some (.fld (Fld.rd w) (Fld.rs1 w) (Fld.immI w))
  | _ => none

/-- MISC-MEM (R88). -/
def decodeMiscMem (w : IWord) : Option Instr :=
  match Fld.funct3 w with
  | 0#3 => some (.fence (Fld.fm w) (Fld.pred w) (Fld.succ w) (Fld.rs1 w) (Fld.rd w))
  | 1#3 => some (.fenceI (Fld.immI w) (Fld.rs1 w) (Fld.rd w))
  | _ => none

/-- The shift amount of SLLI, SRLI and SRAI, where the selector of R89 is `sel6`: funct7 = 2 * `sel6`
at XLEN 32, funct6 = `sel6` at XLEN 64. -/
def shiftSelected (xl : XLen) (w : IWord) (sel6 : BitVec 6) : Bool :=
  match xl with
  | .rv32 => Fld.funct7 w == sel6 ++ 0#1
  | .rv64 => Fld.funct6 w == sel6

/-- OP-IMM (R89). -/
def decodeOpImm (xl : XLen) (w : IWord) : Option Instr :=
  match Fld.funct3 w with
  | 0#3 => some (.addi (Fld.rd w) (Fld.rs1 w) (Fld.immI w))
  | 1#3 =>
    if shiftSelected xl w 0x00#6 then some (.slli (Fld.rd w) (Fld.rs1 w) (Fld.shamt w)) else none
  | 2#3 => some (.slti (Fld.rd w) (Fld.rs1 w) (Fld.immI w))
  | 3#3 => some (.sltiu (Fld.rd w) (Fld.rs1 w) (Fld.immI w))
  | 4#3 => some (.xori (Fld.rd w) (Fld.rs1 w) (Fld.immI w))
  | 5#3 =>
    if shiftSelected xl w 0x00#6 then some (.srli (Fld.rd w) (Fld.rs1 w) (Fld.shamt w))
    else if shiftSelected xl w 0x10#6 then some (.srai (Fld.rd w) (Fld.rs1 w) (Fld.shamt w))
    else none
  | 6#3 => some (.ori (Fld.rd w) (Fld.rs1 w) (Fld.immI w))
  | 7#3 => some (.andi (Fld.rd w) (Fld.rs1 w) (Fld.immI w))

/-- OP-IMM-32 (R91). -/
def decodeOpImm32 (xl : XLen) (w : IWord) : Option Instr :=
  match Fld.funct3 w, Fld.funct7 w with
  | 0#3, _ => only64 xl (.addiw (Fld.rd w) (Fld.rs1 w) (Fld.immI w))
  | 1#3, 0x00#7 => only64 xl (.slliw (Fld.rd w) (Fld.rs1 w) (Fld.shamt5 w))
  | 5#3, 0x00#7 => only64 xl (.srliw (Fld.rd w) (Fld.rs1 w) (Fld.shamt5 w))
  | 5#3, 0x20#7 => only64 xl (.sraiw (Fld.rd w) (Fld.rs1 w) (Fld.shamt5 w))
  | _, _ => none

/-- STORE (R92). -/
def decodeStore (xl : XLen) (w : IWord) : Option Instr :=
  match Fld.funct3 w with
  | 0#3 => some (.sb (Fld.rs1 w) (Fld.rs2 w) (Fld.immS w))
  | 1#3 => some (.sh (Fld.rs1 w) (Fld.rs2 w) (Fld.immS w))
  | 2#3 => some (.sw (Fld.rs1 w) (Fld.rs2 w) (Fld.immS w))
  | 3#3 => only64 xl (.sd (Fld.rs1 w) (Fld.rs2 w) (Fld.immS w))
  | _ => none

/-- STORE-FP (R93). -/
def decodeStoreFp (w : IWord) : Option Instr :=
  match Fld.funct3 w with
  | 2#3 => some (.fsw (Fld.rs1 w) (Fld.rs2 w) (Fld.immS w))
  | 3#3 => some (.fsd (Fld.rs1 w) (Fld.rs2 w) (Fld.immS w))
  | _ => none

/-- The funct5 selection of the .W atomics (R94). -/
def decodeAmoW (w : IWord) : Option Instr :=
  match Fld.funct5 w with
  | 0b00010#5 => some (.lrW (Fld.rd w) (Fld.rs1 w) (Fld.rs2 w) (Fld.aq w) (Fld.rl w))
  | 0b00011#5 => some (.scW (Fld.rd w) (Fld.rs1 w) (Fld.rs2 w) (Fld.aq w) (Fld.rl w))
  | 0b00001#5 => some (.amoswapW (Fld.rd w) (Fld.rs1 w) (Fld.rs2 w) (Fld.aq w) (Fld.rl w))
  | 0b00000#5 => some (.amoaddW (Fld.rd w) (Fld.rs1 w) (Fld.rs2 w) (Fld.aq w) (Fld.rl w))
  | 0b00100#5 => some (.amoxorW (Fld.rd w) (Fld.rs1 w) (Fld.rs2 w) (Fld.aq w) (Fld.rl w))
  | 0b01100#5 => some (.amoandW (Fld.rd w) (Fld.rs1 w) (Fld.rs2 w) (Fld.aq w) (Fld.rl w))
  | 0b01000#5 => some (.amoorW (Fld.rd w) (Fld.rs1 w) (Fld.rs2 w) (Fld.aq w) (Fld.rl w))
  | 0b10000#5 => some (.amominW (Fld.rd w) (Fld.rs1 w) (Fld.rs2 w) (Fld.aq w) (Fld.rl w))
  | 0b10100#5 => some (.amomaxW (Fld.rd w) (Fld.rs1 w) (Fld.rs2 w) (Fld.aq w) (Fld.rl w))
  | 0b11000#5 => some (.amominuW (Fld.rd w) (Fld.rs1 w) (Fld.rs2 w) (Fld.aq w) (Fld.rl w))
  | 0b11100#5 => some (.amomaxuW (Fld.rd w) (Fld.rs1 w) (Fld.rs2 w) (Fld.aq w) (Fld.rl w))
  | _ => none

/-- The funct5 selection of the .D atomics (R94). -/
def decodeAmoD (xl : XLen) (w : IWord) : Option Instr :=
  match Fld.funct5 w with
  | 0b00010#5 => only64 xl (.lrD (Fld.rd w) (Fld.rs1 w) (Fld.rs2 w) (Fld.aq w) (Fld.rl w))
  | 0b00011#5 => only64 xl (.scD (Fld.rd w) (Fld.rs1 w) (Fld.rs2 w) (Fld.aq w) (Fld.rl w))
  | 0b00001#5 => only64 xl (.amoswapD (Fld.rd w) (Fld.rs1 w) (Fld.rs2 w) (Fld.aq w) (Fld.rl w))
  | 0b00000#5 => only64 xl (.amoaddD (Fld.rd w) (Fld.rs1 w) (Fld.rs2 w) (Fld.aq w) (Fld.rl w))
  | 0b00100#5 => only64 xl (.amoxorD (Fld.rd w) (Fld.rs1 w) (Fld.rs2 w) (Fld.aq w) (Fld.rl w))
  | 0b01100#5 => only64 xl (.amoandD (Fld.rd w) (Fld.rs1 w) (Fld.rs2 w) (Fld.aq w) (Fld.rl w))
  | 0b01000#5 => only64 xl (.amoorD (Fld.rd w) (Fld.rs1 w) (Fld.rs2 w) (Fld.aq w) (Fld.rl w))
  | 0b10000#5 => only64 xl (.amominD (Fld.rd w) (Fld.rs1 w) (Fld.rs2 w) (Fld.aq w) (Fld.rl w))
  | 0b10100#5 => only64 xl (.amomaxD (Fld.rd w) (Fld.rs1 w) (Fld.rs2 w) (Fld.aq w) (Fld.rl w))
  | 0b11000#5 => only64 xl (.amominuD (Fld.rd w) (Fld.rs1 w) (Fld.rs2 w) (Fld.aq w) (Fld.rl w))
  | 0b11100#5 => only64 xl (.amomaxuD (Fld.rd w) (Fld.rs1 w) (Fld.rs2 w) (Fld.aq w) (Fld.rl w))
  | _ => none

/-- AMO (R94). -/
def decodeAmo (xl : XLen) (w : IWord) : Option Instr :=
  match Fld.funct3 w with
  | 2#3 => decodeAmoW w
  | 3#3 => decodeAmoD xl w
  | _ => none

/-- OP (R95). -/
def decodeOp (w : IWord) : Option Instr :=
  match Fld.funct7 w, Fld.funct3 w with
  | 0x00#7, 0#3 => some (.add (Fld.rd w) (Fld.rs1 w) (Fld.rs2 w))
  | 0x00#7, 1#3 => some (.sll (Fld.rd w) (Fld.rs1 w) (Fld.rs2 w))
  | 0x00#7, 2#3 => some (.slt (Fld.rd w) (Fld.rs1 w) (Fld.rs2 w))
  | 0x00#7, 3#3 => some (.sltu (Fld.rd w) (Fld.rs1 w) (Fld.rs2 w))
  | 0x00#7, 4#3 => some (.xor (Fld.rd w) (Fld.rs1 w) (Fld.rs2 w))
  | 0x00#7, 5#3 => some (.srl (Fld.rd w) (Fld.rs1 w) (Fld.rs2 w))
  | 0x00#7, 6#3 => some (.or (Fld.rd w) (Fld.rs1 w) (Fld.rs2 w))
  | 0x00#7, 7#3 => some (.and (Fld.rd w) (Fld.rs1 w) (Fld.rs2 w))
  | 0x20#7, 0#3 => some (.sub (Fld.rd w) (Fld.rs1 w) (Fld.rs2 w))
  | 0x20#7, 5#3 => some (.sra (Fld.rd w) (Fld.rs1 w) (Fld.rs2 w))
  | 0x01#7, 0#3 => some (.mul (Fld.rd w) (Fld.rs1 w) (Fld.rs2 w))
  | 0x01#7, 1#3 => some (.mulh (Fld.rd w) (Fld.rs1 w) (Fld.rs2 w))
  | 0x01#7, 2#3 => some (.mulhsu (Fld.rd w) (Fld.rs1 w) (Fld.rs2 w))
  | 0x01#7, 3#3 => some (.mulhu (Fld.rd w) (Fld.rs1 w) (Fld.rs2 w))
  | 0x01#7, 4#3 => some (.div (Fld.rd w) (Fld.rs1 w) (Fld.rs2 w))
  | 0x01#7, 5#3 => some (.divu (Fld.rd w) (Fld.rs1 w) (Fld.rs2 w))
  | 0x01#7, 6#3 => some (.rem (Fld.rd w) (Fld.rs1 w) (Fld.rs2 w))
  | 0x01#7, 7#3 => some (.remu (Fld.rd w) (Fld.rs1 w) (Fld.rs2 w))
  | _, _ => none

/-- OP-32 (R97). -/
def decodeOp32 (xl : XLen) (w : IWord) : Option Instr :=
  match Fld.funct7 w, Fld.funct3 w with
  | 0x00#7, 0#3 => only64 xl (.addw (Fld.rd w) (Fld.rs1 w) (Fld.rs2 w))
  | 0x00#7, 1#3 => only64 xl (.sllw (Fld.rd w) (Fld.rs1 w) (Fld.rs2 w))
  | 0x00#7, 5#3 => only64 xl (.srlw (Fld.rd w) (Fld.rs1 w) (Fld.rs2 w))
  | 0x20#7, 0#3 => only64 xl (.subw (Fld.rd w) (Fld.rs1 w) (Fld.rs2 w))
  | 0x20#7, 5#3 => only64 xl (.sraw (Fld.rd w) (Fld.rs1 w) (Fld.rs2 w))
  | 0x01#7, 0#3 => only64 xl (.mulw (Fld.rd w) (Fld.rs1 w) (Fld.rs2 w))
  | 0x01#7, 4#3 => only64 xl (.divw (Fld.rd w) (Fld.rs1 w) (Fld.rs2 w))
  | 0x01#7, 5#3 => only64 xl (.divuw (Fld.rd w) (Fld.rs1 w) (Fld.rs2 w))
  | 0x01#7, 6#3 => only64 xl (.remw (Fld.rd w) (Fld.rs1 w) (Fld.rs2 w))
  | 0x01#7, 7#3 => only64 xl (.remuw (Fld.rd w) (Fld.rs1 w) (Fld.rs2 w))
  | _, _ => none

/-- One opcode of the fused multiply-add family: fmt selects the precision (R98). -/
def decodeFma (w : IWord) (kS kD : RegIx → RegIx → RegIx → RegIx → Rm → Instr) : Option Instr :=
  match Fld.fmt w with
  | 0#2 => withRm w (kS (Fld.rd w) (Fld.rs1 w) (Fld.rs2 w) (Fld.rs3 w))
  | 1#2 => withRm w (kD (Fld.rd w) (Fld.rs1 w) (Fld.rs2 w) (Fld.rs3 w))
  | _ => none

/-- A row of the OP-FP table selected by funct3: sign injection, minimum and maximum, compare (R99). -/
def decodeFp3 (w : IWord) (k0 k1 k2 : Option (RegIx → RegIx → RegIx → Instr)) : Option Instr :=
  match Fld.funct3 w with
  | 0#3 => k0.map (fun k => k (Fld.rd w) (Fld.rs1 w) (Fld.rs2 w))
  | 1#3 => k1.map (fun k => k (Fld.rd w) (Fld.rs1 w) (Fld.rs2 w))
  | 2#3 => k2.map (fun k => k (Fld.rd w) (Fld.rs1 w) (Fld.rs2 w))
  | _ => none

/-- A row of the OP-FP table selected by rs2: the integer conversions (R99). -/
def decodeFpCvt (xl : XLen) (w : IWord) (k0 k1 k2 k3 : RegIx → RegIx → Rm → Instr) : Option Instr :=
  match Fld.rs2 w with
  | 0#5 => withRm w (k0 (Fld.rd w) (Fld.rs1 w))
  | 1#5 => withRm w (k1 (Fld.rd w) (Fld.rs1 w))
  | 2#5 => withRm64 xl w (k2 (Fld.rd w) (Fld.rs1 w))
  | 3#5 => withRm64 xl w (k3 (Fld.rd w) (Fld.rs1 w))
  | _ => none

/-- OP-FP (R99). -/
def decodeOpFp (xl : XLen) (w : IWord) : Option Instr :=
  match Fld.funct7 w with
  | 0x00#7 => withRm w (.faddS (Fld.rd w) (Fld.rs1 w) (Fld.rs2 w))
  | 0x01#7 => withRm w (.faddD (Fld.rd w) (Fld.rs1 w) (Fld.rs2 w))
  | 0x04#7 => withRm w (.fsubS (Fld.rd w) (Fld.rs1 w) (Fld.rs2 w))
  | 0x05#7 => withRm w (.fsubD (Fld.rd w) (Fld.rs1 w) (Fld.rs2 w))
  | 0x08#7 => withRm w (.fmulS (Fld.rd w) (Fld.rs1 w) (Fld.rs2 w))
  | 0x09#7 => withRm w (.fmulD (Fld.rd w) (Fld.rs1 w) (Fld.rs2 w))
  | 0x0C#7 => withRm w (.fdivS (Fld.rd w) (Fld.rs1 w) (Fld.rs2 w))
  | 0x0D#7 => withRm w (.fdivD (Fld.rd w) (Fld.rs1 w) (Fld.rs2 w))
  | 0x2C#7 => if Fld.rs2 w = 0#5 then withRm w (.fsqrtS (Fld.rd w) (Fld.rs1 w)) else none
  | 0x2D#7 => if Fld.rs2 w = 0#5 then withRm w (.fsqrtD (Fld.rd w) (Fld.rs1 w)) else none
  | 0x21#7 => if Fld.rs2 w = 0#5 then withRm w (.fcvtDS (Fld.rd w) (Fld.rs1 w)) else none
  | 0x20#7 => if Fld.rs2 w = 1#5 then withRm w (.fcvtSD (Fld.rd w) (Fld.rs1 w)) else none
  | 0x10#7 => decodeFp3 w (some .fsgnjS) (some .fsgnjnS) (some .fsgnjxS)
  | 0x14#7 => decodeFp3 w (some .fminS) (some .fmaxS) none
  | 0x50#7 => decodeFp3 w (some .fleS) (some .fltS) (some .feqS)
  | 0x11#7 => decodeFp3 w (some .fsgnjD) (some .fsgnjnD) (some .fsgnjxD)
  | 0x15#7 => decodeFp3 w (some .fminD) (some .fmaxD) none
  | 0x51#7 => decodeFp3 w (some .fleD) (some .fltD) (some .feqD)
  | 0x60#7 => decodeFpCvt xl w .fcvtWS .fcvtWuS .fcvtLS .fcvtLuS
  | 0x61#7 => decodeFpCvt xl w .fcvtWD .fcvtWuD .fcvtLD .fcvtLuD
  | 0x68#7 => decodeFpCvt xl w .fcvtSW .fcvtSWu .fcvtSL .fcvtSLu
  | 0x69#7 => decodeFpCvt xl w .fcvtDW .fcvtDWu .fcvtDL .fcvtDLu
  | 0x70#7 =>
    match Fld.rs2 w, Fld.funct3 w with
    | 0#5, 0#3 => some (.fmvXW (Fld.rd w) (Fld.rs1 w))
    | 0#5, 1#3 => some (.fclassS (Fld.rd w) (Fld.rs1 w))
    | _, _ => none
  | 0x71#7 =>
    match Fld.rs2 w, Fld.funct3 w with
    | 0#5, 0#3 => only64 xl (.fmvXD (Fld.rd w) (Fld.rs1 w))
    | 0#5, 1#3 => some (.fclassD (Fld.rd w) (Fld.rs1 w))
    | _, _ => none
  | 0x78#7 =>
    match Fld.rs2 w, Fld.funct3 w with
    | 0#5, 0#3 => some (.fmvWX (Fld.rd w) (Fld.rs1 w))
    | _, _ => none
  | 0x79#7 =>
    match Fld.rs2 w, Fld.funct3 w with
    | 0#5, 0#3 => only64 xl (.fmvDX (Fld.rd w) (Fld.rs1 w))
    | _, _ => none
  | _ => none

/-- BRANCH (R100). -/
def decodeBranch (w : IWord) : Option Instr :=
  match Fld.funct3 w with
  | 0#3 => some (.beq (Fld.rs1 w) (Fld.rs2 w) (Fld.offB w))
  | 1#3 => some (.bne (Fld.rs1 w) (Fld.rs2 w) (Fld.offB w))
  | 4#3 => some (.blt (Fld.rs1 w) (Fld.rs2 w) (Fld.offB w))
  | 5#3 => some (.bge (Fld.rs1 w) (Fld.rs2 w) (Fld.offB w))
  | 6#3 => some (.bltu (Fld.rs1 w) (Fld.rs2 w) (Fld.offB w))
  | 7#3 => some (.bgeu (Fld.rs1 w) (Fld.rs2 w) (Fld.offB w))
  | _ => none

/-- JALR (R101). -/
def decodeJalr (w : IWord) : Option Instr :=
  match Fld.funct3 w with
  | 0#3 => some (.jalr (Fld.rd w) (Fld.rs1 w) (Fld.immI w))
  | _ => none

/-- SYSTEM with funct3 0 (R103): a fixed funct12, SFENCE.VMA, or else the fallback to FENCE. -/
def decodeSystem0 (w : IWord) : Instr :=
  match Fld.funct12 w with
  | 0x000#12 => .ecall (Fld.rs1 w) (Fld.rd w)
  | 0x001#12 => .ebreak (Fld.rs1 w) (Fld.rd w)
  | 0x002#12 => .uret (Fld.rs1 w) (Fld.rd w)
  | 0x102#12 => .sret (Fld.rs1 w) (Fld.rd w)
  | 0x302#12 => .mret (Fld.rs1 w) (Fld.rd w)
  | 0x105#12 => .wfi (Fld.rs1 w) (Fld.rd w)
  | f =>
    if f.extractLsb' 5 7 = 0x09#7 then .sfenceVma (Fld.rs1 w) (Fld.rs2 w) (Fld.rd w)
    else .fenceSystem f (Fld.rs1 w) (Fld.rd w)

/-- SYSTEM (R103). -/
def decodeSystem (w : IWord) : Option Instr :=
  match Fld.funct3 w with
  | 0#3 => some (decodeSystem0 w)
  | 1#3 => some (.csrrw (Fld.rd w) (Fld.csr w) (Fld.rs1 w))
  | 2#3 => some (.csrrs (Fld.rd w) (Fld.csr w) (Fld.rs1 w))
  | 3#3 => some (.csrrc (Fld.rd w) (Fld.csr w) (Fld.rs1 w))
  | 5#3 => some (.csrrwi (Fld.rd w) (Fld.csr w) (Fld.zimm w))
  | 6#3 => some (.csrrsi (Fld.rd w) (Fld.csr w) (Fld.zimm w))
  | 7#3 => some (.csrrci (Fld.rd w) (Fld.csr w) (Fld.zimm w))
  | _ => none

/-- The decoder of 32-bit words: selection on the major opcode (R85), none for kind Unknown (R73,
R104). -/
def decode32 (xl : XLen) (w : IWord) : Option Instr :=
  match Fld.opcode w with
  | 0x03#7 => decodeLoad xl w
  | 0x07#7 => decodeLoadFp w
  | 0x0F#7 => decodeMiscMem w
  | 0x13#7 => decodeOpImm xl w
  | 0x17#7 => some (.auipc (Fld.rd w) (Fld.immU w))
  | 0x1B#7 => decodeOpImm32 xl w
  | 0x23#7 => decodeStore xl w
  | 0x27#7 => decodeStoreFp w
  | 0x2F#7 => decodeAmo xl w
  | 0x33#7 => decodeOp w
  | 0x37#7 => some (.lui (Fld.rd w) (Fld.immU w))
  | 0x3B#7 => decodeOp32 xl w
  | 0x43#7 => decodeFma w .fmaddS .fmaddD
  | 0x47#7 => decodeFma w .fmsubS .fmsubD
  | 0x4B#7 => decodeFma w .fnmsubS .fnmsubD
  | 0x4F#7 => decodeFma w .fnmaddS .fnmaddD
  | 0x53#7 => decodeOpFp xl w
  | 0x63#7 => decodeBranch w
  | 0x67#7 => decodeJalr w
  | 0x6F#7 => some (.jal (Fld.rd w) (Fld.offJ w))
  | 0x73#7 => decodeSystem w
  | _ => none

/-! ## Fields of a compressed word (40_compressed R120, R124 to R165) -/

namespace CFld

def quadrant (c : CWord) : BitVec 2 := c.extractLsb' 0 2
def funct3 (c : CWord) : BitVec 3 := c.extractLsb' 13 3
def bit12 (c : CWord) : BitVec 1 := c.extractLsb' 12 1
def rd (c : CWord) : RegIx := c.extractLsb' 7 5
def rs2 (c : CWord) : RegIx := c.extractLsb' 2 5
/-- The field rd' or rs2' in bits 4:2. -/
def rdp (c : CWord) : CRegIx := c.extractLsb' 2 3
/-- The field rs1' in bits 9:7. -/
def rs1p (c : CWord) : CRegIx := c.extractLsb' 7 3
/-- `{c[12], c[6:2]}`: the 6-bit immediate or shift amount of the CI and CB forms. -/
def imm6 (c : CWord) : BitVec 6 := c.extractLsb' 12 1 ++ c.extractLsb' 2 5
/-- nzuimm[9:2] of C.ADDI4SPN (R124). -/
def immAddi4spn (c : CWord) : BitVec 8 :=
  c.extractLsb' 7 4 ++ c.extractLsb' 11 2 ++ c.extractLsb' 5 1 ++ c.extractLsb' 6 1
/-- uimm[7:3] of the CL and CS doubleword forms (R125). -/
def uimmD (c : CWord) : BitVec 5 := c.extractLsb' 5 2 ++ c.extractLsb' 10 3
/-- uimm[6:2] of the CL and CS word forms (R126). -/
def uimmW (c : CWord) : BitVec 5 := c.extractLsb' 5 1 ++ c.extractLsb' 10 3 ++ c.extractLsb' 6 1
/-- offset[11:1] of the CJ forms (R135). -/
def offJ (c : CWord) : BitVec 11 :=
  c.extractLsb' 12 1 ++ c.extractLsb' 8 1 ++ c.extractLsb' 9 2 ++ c.extractLsb' 6 1 ++
    c.extractLsb' 7 1 ++ c.extractLsb' 2 1 ++ c.extractLsb' 11 1 ++ c.extractLsb' 3 3
/-- nzimm[9:4] of C.ADDI16SP (R138). -/
def immAddi16sp (c : CWord) : BitVec 6 :=
  c.extractLsb' 12 1 ++ c.extractLsb' 3 2 ++ c.extractLsb' 5 1 ++ c.extractLsb' 2 1 ++
    c.extractLsb' 6 1
/-- offset[8:1] of C.BEQZ and C.BNEZ (R150). -/
def offB (c : CWord) : BitVec 8 :=
  c.extractLsb' 12 1 ++ c.extractLsb' 5 2 ++ c.extractLsb' 2 1 ++ c.extractLsb' 10 2 ++
    c.extractLsb' 3 2
/-- uimm[8:3] of C.FLDSP and C.LDSP (R153). -/
def uimmLdsp (c : CWord) : BitVec 6 := c.extractLsb' 2 3 ++ c.extractLsb' 12 1 ++ c.extractLsb' 5 2
/-- uimm[7:2] of C.LWSP and C.FLWSP (R154). -/
def uimmLwsp (c : CWord) : BitVec 6 := c.extractLsb' 2 2 ++ c.extractLsb' 12 1 ++ c.extractLsb' 4 3
/-- uimm[8:3] of C.FSDSP and C.SDSP (R162). -/
def uimmSdsp (c : CWord) : BitVec 6 := c.extractLsb' 7 3 ++ c.extractLsb' 10 3
/-- uimm[7:2] of C.SWSP and C.FSWSP (R163). -/
def uimmSwsp (c : CWord) : BitVec 6 := c.extractLsb' 7 2 ++ c.extractLsb' 9 4

end CFld

/-! ## Decoding a compressed word (40_compressed) -/

/-- Quadrant 0 (R124 to R132). -/
def decodeC0 (xl : XLen) (c : CWord) : Option Instr :=
  match CFld.funct3 c, xl with
  | 0#3, _ =>
    if CFld.immAddi4spn c = 0 then none else some (.cAddi4spn (CFld.rdp c) (CFld.immAddi4spn c))
  | 1#3, _ => some (.cFld (CFld.rdp c) (CFld.rs1p c) (CFld.uimmD c))
  | 2#3, _ => some (.cLw (CFld.rdp c) (CFld.rs1p c) (CFld.uimmW c))
  | 3#3, .rv32 => some (.cFlw (CFld.rdp c) (CFld.rs1p c) (CFld.uimmW c))
  | 3#3, .rv64 => some (.cLd (CFld.rdp c) (CFld.rs1p c) (CFld.uimmD c))
  | 5#3, _ => some (.cFsd (CFld.rs1p c) (CFld.rdp c) (CFld.uimmD c))
  | 6#3, _ => some (.cSw (CFld.rs1p c) (CFld.rdp c) (CFld.uimmW c))
  | 7#3, .rv32 => some (.cFsw (CFld.rs1p c) (CFld.rdp c) (CFld.uimmW c))
  | 7#3, .rv64 => some (.cSd (CFld.rs1p c) (CFld.rdp c) (CFld.uimmD c))
  | _, _ => none

/-- A compressed shift: reserved at XLEN 32 with c[12] = 1 (R121, R140, R141, R152). -/
def compressedShift (xl : XLen) (c : CWord) (i : Instr) : Option Instr :=
  match xl, CFld.bit12 c with
  | .rv32, 1#1 => none
  | _, _ => some i

/-- Quadrant 1, funct3 4, c[11:10] = 3: the register-register forms (R143 to R148). -/
def decodeC1Reg (xl : XLen) (c : CWord) : Option Instr :=
  match CFld.bit12 c, c.extractLsb' 5 2 with
  | 0#1, 0#2 => some (.cSub (CFld.rs1p c) (CFld.rdp c))
  | 0#1, 1#2 => some (.cXor (CFld.rs1p c) (CFld.rdp c))
  | 0#1, 2#2 => some (.cOr (CFld.rs1p c) (CFld.rdp c))
  | 0#1, 3#2 => some (.cAnd (CFld.rs1p c) (CFld.rdp c))
  | 1#1, 0#2 => only64 xl (.cSubw (CFld.rs1p c) (CFld.rdp c))
  | 1#1, 1#2 => only64 xl (.cAddw (CFld.rs1p c) (CFld.rdp c))
  | _, _ => none

/-- Quadrant 1, funct3 4 (R140 to R148). -/
def decodeC1Alu (xl : XLen) (c : CWord) : Option Instr :=
  match c.extractLsb' 10 2 with
  | 0#2 => compressedShift xl c (.cSrli (CFld.rs1p c) (CFld.imm6 c))
  | 1#2 => compressedShift xl c (.cSrai (CFld.rs1p c) (CFld.imm6 c))
  | 2#2 => some (.cAndi (CFld.rs1p c) (CFld.imm6 c))
  | 3#2 => decodeC1Reg xl c

/-- Quadrant 1 (R133 to R151). -/
def decodeC1 (xl : XLen) (c : CWord) : Option Instr :=
  match CFld.funct3 c, xl with
  | 0#3, _ =>
    if CFld.rd c = 0 then some (.cNop (CFld.imm6 c)) else some (.cAddi (CFld.rd c) (CFld.imm6 c))
  | 1#3, .rv32 => some (.cJal (CFld.offJ c))
  | 1#3, .rv64 => if CFld.rd c = 0 then none else some (.cAddiw (CFld.rd c) (CFld.imm6 c))
  | 2#3, _ => some (.cLi (CFld.rd c) (CFld.imm6 c))
  | 3#3, _ =>
    if CFld.imm6 c = 0 then none
    else if CFld.rd c = 2 then some (.cAddi16sp (CFld.immAddi16sp c))
    else some (.cLui (CFld.rd c) (CFld.imm6 c))
  | 4#3, _ => decodeC1Alu xl c
  | 5#3, _ => some (.cJ (CFld.offJ c))
  | 6#3, _ => some (.cBeqz (CFld.rs1p c) (CFld.offB c))
  | 7#3, _ => some (.cBnez (CFld.rs1p c) (CFld.offB c))

/-- Quadrant 2, funct3 4 (R157 to R161). -/
def decodeC2Jump (c : CWord) : Option Instr :=
  match CFld.bit12 c with
  | 0#1 =>
    if CFld.rs2 c = 0 then
      if CFld.rd c = 0 then none else some (.cJr (CFld.rd c))
    else some (.cMv (CFld.rd c) (CFld.rs2 c))
  | 1#1 =>
    if CFld.rs2 c = 0 then
      if CFld.rd c = 0 then some .cEbreak else some (.cJalr (CFld.rd c))
    else some (.cAdd (CFld.rd c) (CFld.rs2 c))

/-- Quadrant 2 (R152 to R165). -/
def decodeC2 (xl : XLen) (c : CWord) : Option Instr :=
  match CFld.funct3 c, xl with
  | 0#3, _ => compressedShift xl c (.cSlli (CFld.rd c) (CFld.imm6 c))
  | 1#3, _ => some (.cFldsp (CFld.rd c) (CFld.uimmLdsp c))
  | 2#3, _ => if CFld.rd c = 0 then none else some (.cLwsp (CFld.rd c) (CFld.uimmLwsp c))
  | 3#3, .rv32 => some (.cFlwsp (CFld.rd c) (CFld.uimmLwsp c))
  | 3#3, .rv64 => if CFld.rd c = 0 then none else some (.cLdsp (CFld.rd c) (CFld.uimmLdsp c))
  | 4#3, _ => decodeC2Jump c
  | 5#3, _ => some (.cFsdsp (CFld.rs2 c) (CFld.uimmSdsp c))
  | 6#3, _ => some (.cSwsp (CFld.rs2 c) (CFld.uimmSwsp c))
  | 7#3, .rv32 => some (.cFswsp (CFld.rs2 c) (CFld.uimmSwsp c))
  | 7#3, .rv64 => some (.cSdsp (CFld.rs2 c) (CFld.uimmSdsp c))

/-- The decoder of compressed words, none for the reserved words of R121. Quadrant 3 is not
compressed (R120). -/
def decode16 (xl : XLen) (c : CWord) : Option Instr :=
  match CFld.quadrant c with
  | 0#2 => decodeC0 xl c
  | 1#2 => decodeC1 xl c
  | 2#2 => decodeC2 xl c
  | 3#2 => none

/-! ## Decoding a raw word -/

/-- Why a word is no instruction: the two ways of being kind Unknown (30_encoding R107 (a)). -/
inductive Reject where
  | unknownWord (w : IWord)
  | reservedCompressed (c : CWord)
  deriving DecidableEq, Repr

/-- The length of a rejected word (30_encoding R71, 40_compressed R121). -/
def Reject.len : Reject → Nat
  | .unknownWord _ => 4
  | .reservedCompressed _ => 2

/-- A raw word holds a 16-bit instruction exactly when its bits 1:0 are not 0b11 (30_encoding R71). -/
def isCompressed (raw : IWord) : Bool := raw.extractLsb' 0 2 != 3#2

/-- The decoder: length, then the 16-bit or the 32-bit table (30_encoding R70). Bits 31:16 of a raw
word that holds a compressed instruction are ignored (R71). -/
def decode (xl : XLen) (raw : IWord) : Except Reject Instr :=
  if isCompressed raw then
    match decode16 xl (raw.extractLsb' 0 16) with
    | some i => .ok i
    | none => .error (.reservedCompressed (raw.extractLsb' 0 16))
  else
    match decode32 xl raw with
    | some i => .ok i
    | none => .error (.unknownWord raw)

/-! ## Encoding helpers (30_encoding R75, 40_compressed R123) -/

/-- R format. -/
def encR (op : BitVec 7) (f3 : BitVec 3) (f7 : BitVec 7) (rd rs1 rs2 : RegIx) : IWord :=
  f7 ++ rs2 ++ rs1 ++ f3 ++ rd ++ op

/-- R4 format. -/
def encR4 (op : BitVec 7) (fmt : BitVec 2) (rd rs1 rs2 rs3 : RegIx) (rm : Rm) : IWord :=
  rs3 ++ fmt ++ rs2 ++ rs1 ++ rm.bits ++ rd ++ op

/-- R-AMO format. -/
def encAmo (f3 : BitVec 3) (f5 : BitVec 5) (rd rs1 rs2 : RegIx) (aq rl : BitVec 1) : IWord :=
  f5 ++ aq ++ rl ++ rs2 ++ rs1 ++ f3 ++ rd ++ 0x2F#7

/-- I format, and I-CSR with the CSR address or zimm in the same places. -/
def encI (op : BitVec 7) (f3 : BitVec 3) (rd rs1 : RegIx) (imm : BitVec 12) : IWord :=
  imm ++ rs1 ++ f3 ++ rd ++ op

/-- I-shift format with funct6 and a 6-bit shift amount. -/
def encSh (f3 : BitVec 3) (f6 : BitVec 6) (rd rs1 : RegIx) (shamt : BitVec 6) : IWord :=
  f6 ++ shamt ++ rs1 ++ f3 ++ rd ++ 0x13#7

/-- S format. -/
def encS (op : BitVec 7) (f3 : BitVec 3) (rs1 rs2 : RegIx) (imm : BitVec 12) : IWord :=
  imm.extractLsb' 5 7 ++ rs2 ++ rs1 ++ f3 ++ imm.extractLsb' 0 5 ++ op

/-- B format: bit k of `off` is bit k + 1 of the offset. -/
def encB (op : BitVec 7) (f3 : BitVec 3) (rs1 rs2 : RegIx) (off : BitVec 12) : IWord :=
  off.extractLsb' 11 1 ++ off.extractLsb' 4 6 ++ rs2 ++ rs1 ++ f3 ++ off.extractLsb' 0 4 ++
    off.extractLsb' 10 1 ++ op

/-- U format. -/
def encU (op : BitVec 7) (rd : RegIx) (imm20 : BitVec 20) : IWord := imm20 ++ rd ++ op

/-- J format: bit k of `off` is bit k + 1 of the offset. -/
def encJ (op : BitVec 7) (rd : RegIx) (off : BitVec 20) : IWord :=
  off.extractLsb' 19 1 ++ off.extractLsb' 0 10 ++ off.extractLsb' 10 1 ++ off.extractLsb' 11 8 ++
    rd ++ op

/-- FENCE: the I format with its immediate split in three (30_encoding R74). -/
def encFence (fm pred succ : BitVec 4) (rs1 rd : RegIx) : IWord :=
  fm ++ pred ++ succ ++ rs1 ++ 0#3 ++ rd ++ 0x0F#7

/-! ## The encoder -/

/-- CIW and CL and CS and the other compressed layouts (40_compressed R120, R124 to R165), most
significant field first. -/
def encCiw (rd : CRegIx) (imm : BitVec 8) : CWord :=
  0#3 ++ imm.extractLsb' 2 2 ++ imm.extractLsb' 4 4 ++ imm.extractLsb' 0 1 ++ imm.extractLsb' 1 1 ++ rd ++ 0#2

/-- CL and CS doubleword forms (R125): `r` is rd' or rs2'. -/
def encClD (f3 : BitVec 3) (r rs1 : CRegIx) (imm : BitVec 5) : CWord :=
  f3 ++ imm.extractLsb' 0 3 ++ rs1 ++ imm.extractLsb' 3 2 ++ r ++ 0#2

/-- CL and CS word forms (R126): `r` is rd' or rs2'. -/
def encClW (f3 : BitVec 3) (r rs1 : CRegIx) (imm : BitVec 5) : CWord :=
  f3 ++ imm.extractLsb' 1 3 ++ rs1 ++ imm.extractLsb' 0 1 ++ imm.extractLsb' 4 1 ++ r ++ 0#2

/-- CI forms with the immediate `{c[12], c[6:2]}`. -/
def encCi (f3 : BitVec 3) (q : BitVec 2) (rd : RegIx) (imm : BitVec 6) : CWord :=
  f3 ++ imm.extractLsb' 5 1 ++ rd ++ imm.extractLsb' 0 5 ++ q

/-- C.ADDI16SP (R138). -/
def encCi16sp (imm : BitVec 6) : CWord :=
  3#3 ++ imm.extractLsb' 5 1 ++ 2#5 ++ imm.extractLsb' 0 1 ++ imm.extractLsb' 2 1 ++
    imm.extractLsb' 3 2 ++ imm.extractLsb' 1 1 ++ 1#2

/-- CJ forms (R135). -/
def encCj (f3 : BitVec 3) (off : BitVec 11) : CWord :=
  f3 ++ off.extractLsb' 10 1 ++ off.extractLsb' 3 1 ++ off.extractLsb' 7 2 ++ off.extractLsb' 9 1 ++
    off.extractLsb' 5 1 ++ off.extractLsb' 6 1 ++ off.extractLsb' 0 3 ++ off.extractLsb' 4 1 ++ 1#2

/-- CB forms with a register and a 6-bit immediate (R140 to R142). -/
def encCbAlu (f2 : BitVec 2) (rd : CRegIx) (imm : BitVec 6) : CWord :=
  4#3 ++ imm.extractLsb' 5 1 ++ f2 ++ rd ++ imm.extractLsb' 0 5 ++ 1#2

/-- CA forms (R143 to R148). -/
def encCa (f6 : BitVec 6) (f2 : BitVec 2) (rd rs2 : CRegIx) : CWord := f6 ++ rd ++ f2 ++ rs2 ++ 1#2

/-- CB branches (R150). -/
def encCb (f3 : BitVec 3) (rs1 : CRegIx) (off : BitVec 8) : CWord :=
  f3 ++ off.extractLsb' 7 1 ++ off.extractLsb' 2 2 ++ rs1 ++ off.extractLsb' 5 2 ++
    off.extractLsb' 0 2 ++ off.extractLsb' 4 1 ++ 1#2

/-- CI stack-pointer-relative doubleword loads (R153). -/
def encCiD (f3 : BitVec 3) (rd : RegIx) (imm : BitVec 6) : CWord :=
  f3 ++ imm.extractLsb' 2 1 ++ rd ++ imm.extractLsb' 0 2 ++ imm.extractLsb' 3 3 ++ 2#2

/-- CI stack-pointer-relative word loads (R154). -/
def encCiW (f3 : BitVec 3) (rd : RegIx) (imm : BitVec 6) : CWord :=
  f3 ++ imm.extractLsb' 3 1 ++ rd ++ imm.extractLsb' 0 3 ++ imm.extractLsb' 4 2 ++ 2#2

/-- CR forms (R157 to R161). -/
def encCr (f4 : BitVec 4) (rd rs2 : RegIx) : CWord := f4 ++ rd ++ rs2 ++ 2#2

/-- CSS doubleword forms (R162). -/
def encCssD (f3 : BitVec 3) (rs2 : RegIx) (imm : BitVec 6) : CWord :=
  f3 ++ imm.extractLsb' 0 3 ++ imm.extractLsb' 3 3 ++ rs2 ++ 2#2

/-- CSS word forms (R163). -/
def encCssW (f3 : BitVec 3) (rs2 : RegIx) (imm : BitVec 6) : CWord :=
  f3 ++ imm.extractLsb' 0 4 ++ imm.extractLsb' 4 2 ++ rs2 ++ 2#2

/-- A compressed word as a raw word: bits 31:16 zero. -/
def raw16 (c : CWord) : IWord := c.setWidth 32

/-- The raw word of an instruction, written from the encoding tables (30_encoding R85 to R103,
40_compressed R124 to R165). -/
def encode : Instr → IWord
  | .lui rd imm => encU 0x37#7 rd imm
  | .auipc rd imm => encU 0x17#7 rd imm
  | .jal rd off => encJ 0x6F#7 rd off
  | .jalr rd rs1 imm => encI 0x67#7 0#3 rd rs1 imm
  | .beq rs1 rs2 off => encB 0x63#7 0#3 rs1 rs2 off
  | .bne rs1 rs2 off => encB 0x63#7 1#3 rs1 rs2 off
  | .blt rs1 rs2 off => encB 0x63#7 4#3 rs1 rs2 off
  | .bge rs1 rs2 off => encB 0x63#7 5#3 rs1 rs2 off
  | .bltu rs1 rs2 off => encB 0x63#7 6#3 rs1 rs2 off
  | .bgeu rs1 rs2 off => encB 0x63#7 7#3 rs1 rs2 off
  | .lb rd rs1 imm => encI 0x03#7 0#3 rd rs1 imm
  | .lh rd rs1 imm => encI 0x03#7 1#3 rd rs1 imm
  | .lw rd rs1 imm => encI 0x03#7 2#3 rd rs1 imm
  | .ld rd rs1 imm => encI 0x03#7 3#3 rd rs1 imm
  | .lbu rd rs1 imm => encI 0x03#7 4#3 rd rs1 imm
  | .lhu rd rs1 imm => encI 0x03#7 5#3 rd rs1 imm
  | .lwu rd rs1 imm => encI 0x03#7 6#3 rd rs1 imm
  | .sb rs1 rs2 imm => encS 0x23#7 0#3 rs1 rs2 imm
  | .sh rs1 rs2 imm => encS 0x23#7 1#3 rs1 rs2 imm
  | .sw rs1 rs2 imm => encS 0x23#7 2#3 rs1 rs2 imm
  | .sd rs1 rs2 imm => encS 0x23#7 3#3 rs1 rs2 imm
  | .addi rd rs1 imm => encI 0x13#7 0#3 rd rs1 imm
  | .slti rd rs1 imm => encI 0x13#7 2#3 rd rs1 imm
  | .sltiu rd rs1 imm => encI 0x13#7 3#3 rd rs1 imm
  | .xori rd rs1 imm => encI 0x13#7 4#3 rd rs1 imm
  | .ori rd rs1 imm => encI 0x13#7 6#3 rd rs1 imm
  | .andi rd rs1 imm => encI 0x13#7 7#3 rd rs1 imm
  | .slli rd rs1 shamt => encSh 1#3 0x00#6 rd rs1 shamt
  | .srli rd rs1 shamt => encSh 5#3 0x00#6 rd rs1 shamt
  | .srai rd rs1 shamt => encSh 5#3 0x10#6 rd rs1 shamt
  | .add rd rs1 rs2 => encR 0x33#7 0#3 0x00#7 rd rs1 rs2
  | .sub rd rs1 rs2 => encR 0x33#7 0#3 0x20#7 rd rs1 rs2
  | .sll rd rs1 rs2 => encR 0x33#7 1#3 0x00#7 rd rs1 rs2
  | .slt rd rs1 rs2 => encR 0x33#7 2#3 0x00#7 rd rs1 rs2
  | .sltu rd rs1 rs2 => encR 0x33#7 3#3 0x00#7 rd rs1 rs2
  | .xor rd rs1 rs2 => encR 0x33#7 4#3 0x00#7 rd rs1 rs2
  | .srl rd rs1 rs2 => encR 0x33#7 5#3 0x00#7 rd rs1 rs2
  | .sra rd rs1 rs2 => encR 0x33#7 5#3 0x20#7 rd rs1 rs2
  | .or rd rs1 rs2 => encR 0x33#7 6#3 0x00#7 rd rs1 rs2
  | .and rd rs1 rs2 => encR 0x33#7 7#3 0x00#7 rd rs1 rs2
  | .fence fm pred succ rs1 rd => encFence fm pred succ rs1 rd
  | .fenceI imm rs1 rd => encI 0x0F#7 1#3 rd rs1 imm
  | .ecall rs1 rd => encI 0x73#7 0#3 rd rs1 0x000#12
  | .ebreak rs1 rd => encI 0x73#7 0#3 rd rs1 0x001#12
  | .uret rs1 rd => encI 0x73#7 0#3 rd rs1 0x002#12
  | .sret rs1 rd => encI 0x73#7 0#3 rd rs1 0x102#12
  | .mret rs1 rd => encI 0x73#7 0#3 rd rs1 0x302#12
  | .wfi rs1 rd => encI 0x73#7 0#3 rd rs1 0x105#12
  | .sfenceVma rs1 rs2 rd => encR 0x73#7 0#3 0x09#7 rd rs1 rs2
  | .csrrw rd csr rs1 => encI 0x73#7 1#3 rd rs1 csr
  | .csrrs rd csr rs1 => encI 0x73#7 2#3 rd rs1 csr
  | .csrrc rd csr rs1 => encI 0x73#7 3#3 rd rs1 csr
  | .csrrwi rd csr zimm => encI 0x73#7 5#3 rd zimm csr
  | .csrrsi rd csr zimm => encI 0x73#7 6#3 rd zimm csr
  | .csrrci rd csr zimm => encI 0x73#7 7#3 rd zimm csr
  | .mul rd rs1 rs2 => encR 0x33#7 0#3 0x01#7 rd rs1 rs2
  | .mulh rd rs1 rs2 => encR 0x33#7 1#3 0x01#7 rd rs1 rs2
  | .mulhsu rd rs1 rs2 => encR 0x33#7 2#3 0x01#7 rd rs1 rs2
  | .mulhu rd rs1 rs2 => encR 0x33#7 3#3 0x01#7 rd rs1 rs2
  | .div rd rs1 rs2 => encR 0x33#7 4#3 0x01#7 rd rs1 rs2
  | .divu rd rs1 rs2 => encR 0x33#7 5#3 0x01#7 rd rs1 rs2
  | .rem rd rs1 rs2 => encR 0x33#7 6#3 0x01#7 rd rs1 rs2
  | .remu rd rs1 rs2 => encR 0x33#7 7#3 0x01#7 rd rs1 rs2
  | .addiw rd rs1 imm => encI 0x1B#7 0#3 rd rs1 imm
  | .slliw rd rs1 shamt => encR 0x1B#7 1#3 0x00#7 rd rs1 shamt
  | .srliw rd rs1 shamt => encR 0x1B#7 5#3 0x00#7 rd rs1 shamt
  | .sraiw rd rs1 shamt => encR 0x1B#7 5#3 0x20#7 rd rs1 shamt
  | .addw rd rs1 rs2 => encR 0x3B#7 0#3 0x00#7 rd rs1 rs2
  | .subw rd rs1 rs2 => encR 0x3B#7 0#3 0x20#7 rd rs1 rs2
  | .sllw rd rs1 rs2 => encR 0x3B#7 1#3 0x00#7 rd rs1 rs2
  | .srlw rd rs1 rs2 => encR 0x3B#7 5#3 0x00#7 rd rs1 rs2
  | .sraw rd rs1 rs2 => encR 0x3B#7 5#3 0x20#7 rd rs1 rs2
  | .mulw rd rs1 rs2 => encR 0x3B#7 0#3 0x01#7 rd rs1 rs2
  | .divw rd rs1 rs2 => encR 0x3B#7 4#3 0x01#7 rd rs1 rs2
  | .divuw rd rs1 rs2 => encR 0x3B#7 5#3 0x01#7 rd rs1 rs2
  | .remw rd rs1 rs2 => encR 0x3B#7 6#3 0x01#7 rd rs1 rs2
  | .remuw rd rs1 rs2 => encR 0x3B#7 7#3 0x01#7 rd rs1 rs2
  | .lrW rd rs1 rs2 aq rl => encAmo 2#3 0b00010#5 rd rs1 rs2 aq rl
  | .scW rd rs1 rs2 aq rl => encAmo 2#3 0b00011#5 rd rs1 rs2 aq rl
  | .amoswapW rd rs1 rs2 aq rl => encAmo 2#3 0b00001#5 rd rs1 rs2 aq rl
  | .amoaddW rd rs1 rs2 aq rl => encAmo 2#3 0b00000#5 rd rs1 rs2 aq rl
  | .amoxorW rd rs1 rs2 aq rl => encAmo 2#3 0b00100#5 rd rs1 rs2 aq rl
  | .amoandW rd rs1 rs2 aq rl => encAmo 2#3 0b01100#5 rd rs1 rs2 aq rl
  | .amoorW rd rs1 rs2 aq rl => encAmo 2#3 0b01000#5 rd rs1 rs2 aq rl
  | .amominW rd rs1 rs2 aq rl => encAmo 2#3 0b10000#5 rd rs1 rs2 aq rl
  | .amomaxW rd rs1 rs2 aq rl => encAmo 2#3 0b10100#5 rd rs1 rs2 aq rl
  | .amominuW rd rs1 rs2 aq rl => encAmo 2#3 0b11000#5 rd rs1 rs2 aq rl
  | .amomaxuW rd rs1 rs2 aq rl => encAmo 2#3 0b11100#5 rd rs1 rs2 aq rl
  | .lrD rd rs1 rs2 aq rl => encAmo 3#3 0b00010#5 rd rs1 rs2 aq rl
  | .scD rd rs1 rs2 aq rl => encAmo 3#3 0b00011#5 rd rs1 rs2 aq rl
  | .amoswapD rd rs1 rs2 aq rl => encAmo 3#3 0b00001#5 rd rs1 rs2 aq rl
  | .amoaddD rd rs1 rs2 aq rl => encAmo 3#3 0b00000#5 rd rs1 rs2 aq rl
  | .amoxorD rd rs1 rs2 aq rl => encAmo 3#3 0b00100#5 rd rs1 rs2 aq rl
  | .amoandD rd rs1 rs2 aq rl => encAmo 3#3 0b01100#5 rd rs1 rs2 aq rl
  | .amoorD rd rs1 rs2 aq rl => encAmo 3#3 0b01000#5 rd rs1 rs2 aq rl
  | .amominD rd rs1 rs2 aq rl => encAmo 3#3 0b10000#5 rd rs1 rs2 aq rl
  | .amomaxD rd rs1 rs2 aq rl => encAmo 3#3 0b10100#5 rd rs1 rs2 aq rl
  | .amominuD rd rs1 rs2 aq rl => encAmo 3#3 0b11000#5 rd rs1 rs2 aq rl
  | .amomaxuD rd rs1 rs2 aq rl => encAmo 3#3 0b11100#5 rd rs1 rs2 aq rl
  | .flw rd rs1 imm => encI 0x07#7 2#3 rd rs1 imm
  | .fld rd rs1 imm => encI 0x07#7 3#3 rd rs1 imm
  | .fsw rs1 rs2 imm => encS 0x27#7 2#3 rs1 rs2 imm
  | .fsd rs1 rs2 imm => encS 0x27#7 3#3 rs1 rs2 imm
  | .fmaddS rd rs1 rs2 rs3 rm => encR4 0x43#7 0#2 rd rs1 rs2 rs3 rm
  | .fmsubS rd rs1 rs2 rs3 rm => encR4 0x47#7 0#2 rd rs1 rs2 rs3 rm
  | .fnmsubS rd rs1 rs2 rs3 rm => encR4 0x4B#7 0#2 rd rs1 rs2 rs3 rm
  | .fnmaddS rd rs1 rs2 rs3 rm => encR4 0x4F#7 0#2 rd rs1 rs2 rs3 rm
  | .faddS rd rs1 rs2 rm => encR 0x53#7 rm.bits 0x00#7 rd rs1 rs2
  | .fsubS rd rs1 rs2 rm => encR 0x53#7 rm.bits 0x04#7 rd rs1 rs2
  | .fmulS rd rs1 rs2 rm => encR 0x53#7 rm.bits 0x08#7 rd rs1 rs2
  | .fdivS rd rs1 rs2 rm => encR 0x53#7 rm.bits 0x0C#7 rd rs1 rs2
  | .fsqrtS rd rs1 rm => encR 0x53#7 rm.bits 0x2C#7 rd rs1 0#5
  | .fsgnjS rd rs1 rs2 => encR 0x53#7 0#3 0x10#7 rd rs1 rs2
  | .fsgnjnS rd rs1 rs2 => encR 0x53#7 1#3 0x10#7 rd rs1 rs2
  | .fsgnjxS rd rs1 rs2 => encR 0x53#7 2#3 0x10#7 rd rs1 rs2
  | .fminS rd rs1 rs2 => encR 0x53#7 0#3 0x14#7 rd rs1 rs2
  | .fmaxS rd rs1 rs2 => encR 0x53#7 1#3 0x14#7 rd rs1 rs2
  | .fleS rd rs1 rs2 => encR 0x53#7 0#3 0x50#7 rd rs1 rs2
  | .fltS rd rs1 rs2 => encR 0x53#7 1#3 0x50#7 rd rs1 rs2
  | .feqS rd rs1 rs2 => encR 0x53#7 2#3 0x50#7 rd rs1 rs2
  | .fcvtWS rd rs1 rm => encR 0x53#7 rm.bits 0x60#7 rd rs1 0#5
  | .fcvtWuS rd rs1 rm => encR 0x53#7 rm.bits 0x60#7 rd rs1 1#5
  | .fcvtLS rd rs1 rm => encR 0x53#7 rm.bits 0x60#7 rd rs1 2#5
  | .fcvtLuS rd rs1 rm => encR 0x53#7 rm.bits 0x60#7 rd rs1 3#5
  | .fcvtSW rd rs1 rm => encR 0x53#7 rm.bits 0x68#7 rd rs1 0#5
  | .fcvtSWu rd rs1 rm => encR 0x53#7 rm.bits 0x68#7 rd rs1 1#5
  | .fcvtSL rd rs1 rm => encR 0x53#7 rm.bits 0x68#7 rd rs1 2#5
  | .fcvtSLu rd rs1 rm => encR 0x53#7 rm.bits 0x68#7 rd rs1 3#5
  | .fclassS rd rs1 => encR 0x53#7 1#3 0x70#7 rd rs1 0#5
  | .fmvXW rd rs1 => encR 0x53#7 0#3 0x70#7 rd rs1 0#5
  | .fmvWX rd rs1 => encR 0x53#7 0#3 0x78#7 rd rs1 0#5
  | .fmaddD rd rs1 rs2 rs3 rm => encR4 0x43#7 1#2 rd rs1 rs2 rs3 rm
  | .fmsubD rd rs1 rs2 rs3 rm => encR4 0x47#7 1#2 rd rs1 rs2 rs3 rm
  | .fnmsubD rd rs1 rs2 rs3 rm => encR4 0x4B#7 1#2 rd rs1 rs2 rs3 rm
  | .fnmaddD rd rs1 rs2 rs3 rm => encR4 0x4F#7 1#2 rd rs1 rs2 rs3 rm
  | .faddD rd rs1 rs2 rm => encR 0x53#7 rm.bits 0x01#7 rd rs1 rs2
  | .fsubD rd rs1 rs2 rm => encR 0x53#7 rm.bits 0x05#7 rd rs1 rs2
  | .fmulD rd rs1 rs2 rm => encR 0x53#7 rm.bits 0x09#7 rd rs1 rs2
  | .fdivD rd rs1 rs2 rm => encR 0x53#7 rm.bits 0x0D#7 rd rs1 rs2
  | .fsqrtD rd rs1 rm => encR 0x53#7 rm.bits 0x2D#7 rd rs1 0#5
  | .fsgnjD rd rs1 rs2 => encR 0x53#7 0#3 0x11#7 rd rs1 rs2
  | .fsgnjnD rd rs1 rs2 => encR 0x53#7 1#3 0x11#7 rd rs1 rs2
  | .fsgnjxD rd rs1 rs2 => encR 0x53#7 2#3 0x11#7 rd rs1 rs2
  | .fminD rd rs1 rs2 => encR 0x53#7 0#3 0x15#7 rd rs1 rs2
  | .fmaxD rd rs1 rs2 => encR 0x53#7 1#3 0x15#7 rd rs1 rs2
  | .fleD rd rs1 rs2 => encR 0x53#7 0#3 0x51#7 rd rs1 rs2
  | .fltD rd rs1 rs2 => encR 0x53#7 1#3 0x51#7 rd rs1 rs2
  | .feqD rd rs1 rs2 => encR 0x53#7 2#3 0x51#7 rd rs1 rs2
  | .fcvtWD rd rs1 rm => encR 0x53#7 rm.bits 0x61#7 rd rs1 0#5
  | .fcvtWuD rd rs1 rm => encR 0x53#7 rm.bits 0x61#7 rd rs1 1#5
  | .fcvtLD rd rs1 rm => encR 0x53#7 rm.bits 0x61#7 rd rs1 2#5
  | .fcvtLuD rd rs1 rm => encR 0x53#7 rm.bits 0x61#7 rd rs1 3#5
  | .fcvtDW rd rs1 rm => encR 0x53#7 rm.bits 0x69#7 rd rs1 0#5
  | .fcvtDWu rd rs1 rm => encR 0x53#7 rm.bits 0x69#7 rd rs1 1#5
  | .fcvtDL rd rs1 rm => encR 0x53#7 rm.bits 0x69#7 rd rs1 2#5
  | .fcvtDLu rd rs1 rm => encR 0x53#7 rm.bits 0x69#7 rd rs1 3#5
  | .fclassD rd rs1 => encR 0x53#7 1#3 0x71#7 rd rs1 0#5
  | .fmvXD rd rs1 => encR 0x53#7 0#3 0x71#7 rd rs1 0#5
  | .fmvDX rd rs1 => encR 0x53#7 0#3 0x79#7 rd rs1 0#5
  | .fcvtSD rd rs1 rm => encR 0x53#7 rm.bits 0x20#7 rd rs1 1#5
  | .fcvtDS rd rs1 rm => encR 0x53#7 rm.bits 0x21#7 rd rs1 0#5
  | .fenceSystem funct12 rs1 rd => encI 0x73#7 0#3 rd rs1 funct12
  | .cAddi4spn rd imm => raw16 (encCiw rd imm)
  | .cFld rd rs1 imm => raw16 (encClD 1#3 rd rs1 imm)
  | .cLw rd rs1 imm => raw16 (encClW 2#3 rd rs1 imm)
  | .cFlw rd rs1 imm => raw16 (encClW 3#3 rd rs1 imm)
  | .cLd rd rs1 imm => raw16 (encClD 3#3 rd rs1 imm)
  | .cFsd rs1 rs2 imm => raw16 (encClD 5#3 rs2 rs1 imm)
  | .cSw rs1 rs2 imm => raw16 (encClW 6#3 rs2 rs1 imm)
  | .cFsw rs1 rs2 imm => raw16 (encClW 7#3 rs2 rs1 imm)
  | .cSd rs1 rs2 imm => raw16 (encClD 7#3 rs2 rs1 imm)
  | .cNop imm => raw16 (encCi 0#3 1#2 0#5 imm)
  | .cAddi rd imm => raw16 (encCi 0#3 1#2 rd imm)
  | .cJal off => raw16 (encCj 1#3 off)
  | .cAddiw rd imm => raw16 (encCi 1#3 1#2 rd imm)
  | .cLi rd imm => raw16 (encCi 2#3 1#2 rd imm)
  | .cAddi16sp imm => raw16 (encCi16sp imm)
  | .cLui rd imm => raw16 (encCi 3#3 1#2 rd imm)
  | .cSrli rd shamt => raw16 (encCbAlu 0#2 rd shamt)
  | .cSrai rd shamt => raw16 (encCbAlu 1#2 rd shamt)
  | .cAndi rd imm => raw16 (encCbAlu 2#2 rd imm)
  | .cSub rd rs2 => raw16 (encCa 0b100011#6 0#2 rd rs2)
  | .cXor rd rs2 => raw16 (encCa 0b100011#6 1#2 rd rs2)
  | .cOr rd rs2 => raw16 (encCa 0b100011#6 2#2 rd rs2)
  | .cAnd rd rs2 => raw16 (encCa 0b100011#6 3#2 rd rs2)
  | .cSubw rd rs2 => raw16 (encCa 0b100111#6 0#2 rd rs2)
  | .cAddw rd rs2 => raw16 (encCa 0b100111#6 1#2 rd rs2)
  | .cJ off => raw16 (encCj 5#3 off)
  | .cBeqz rs1 off => raw16 (encCb 6#3 rs1 off)
  | .cBnez rs1 off => raw16 (encCb 7#3 rs1 off)
  | .cSlli rd shamt => raw16 (encCi 0#3 2#2 rd shamt)
  | .cFldsp rd imm => raw16 (encCiD 1#3 rd imm)
  | .cLwsp rd imm => raw16 (encCiW 2#3 rd imm)
  | .cFlwsp rd imm => raw16 (encCiW 3#3 rd imm)
  | .cLdsp rd imm => raw16 (encCiD 3#3 rd imm)
  | .cJr rs1 => raw16 (encCr 0b1000#4 rs1 0#5)
  | .cMv rd rs2 => raw16 (encCr 0b1000#4 rd rs2)
  | .cEbreak => raw16 (encCr 0b1001#4 0#5 0#5)
  | .cJalr rs1 => raw16 (encCr 0b1001#4 rs1 0#5)
  | .cAdd rd rs2 => raw16 (encCr 0b1001#4 rd rs2)
  | .cFsdsp rs2 imm => raw16 (encCssD 5#3 rs2 imm)
  | .cSwsp rs2 imm => raw16 (encCssW 6#3 rs2 imm)
  | .cFswsp rs2 imm => raw16 (encCssW 7#3 rs2 imm)
  | .cSdsp rs2 imm => raw16 (encCssD 7#3 rs2 imm)

/-- The instruction is a compressed one. -/
def Instr.isCompressed : Instr → Bool
  | .cAddi4spn .. | .cFld .. | .cLw .. | .cFlw .. | .cLd .. | .cFsd .. | .cSw .. | .cFsw ..
  | .cSd .. | .cNop .. | .cAddi .. | .cJal .. | .cAddiw .. | .cLi .. | .cAddi16sp .. | .cLui ..
  | .cSrli .. | .cSrai .. | .cAndi .. | .cSub .. | .cXor .. | .cOr .. | .cAnd .. | .cSubw ..
  | .cAddw .. | .cJ .. | .cBeqz .. | .cBnez .. | .cSlli .. | .cFldsp .. | .cLwsp .. | .cFlwsp ..
  | .cLdsp .. | .cJr .. | .cMv .. | .cEbreak | .cJalr .. | .cAdd .. | .cFsdsp .. | .cSwsp ..
  | .cFswsp .. | .cSdsp .. => true
  | .lui .. | .auipc .. | .jal .. | .jalr .. | .beq .. | .bne .. | .blt .. | .bge .. | .bltu ..
  | .bgeu .. | .lb .. | .lh .. | .lw .. | .ld .. | .lbu .. | .lhu .. | .lwu .. | .sb .. | .sh ..
  | .sw .. | .sd .. | .addi .. | .slti .. | .sltiu .. | .xori .. | .ori .. | .andi .. | .slli ..
  | .srli .. | .srai .. | .add .. | .sub .. | .sll .. | .slt .. | .sltu .. | .xor .. | .srl ..
  | .sra .. | .or .. | .and .. | .fence .. | .fenceI .. | .ecall .. | .ebreak .. | .uret ..
  | .sret .. | .mret .. | .wfi .. | .sfenceVma .. | .csrrw .. | .csrrs .. | .csrrc ..
  | .csrrwi .. | .csrrsi .. | .csrrci .. | .mul .. | .mulh .. | .mulhsu .. | .mulhu .. | .div ..
  | .divu .. | .rem .. | .remu .. | .addiw .. | .slliw .. | .srliw .. | .sraiw .. | .addw ..
  | .subw .. | .sllw .. | .srlw .. | .sraw .. | .mulw .. | .divw .. | .divuw .. | .remw ..
  | .remuw .. | .lrW .. | .scW .. | .amoswapW .. | .amoaddW .. | .amoxorW .. | .amoandW ..
  | .amoorW .. | .amominW .. | .amomaxW .. | .amominuW .. | .amomaxuW .. | .lrD .. | .scD ..
  | .amoswapD .. | .amoaddD .. | .amoxorD .. | .amoandD .. | .amoorD .. | .amominD ..
  | .amomaxD .. | .amominuD .. | .amomaxuD .. | .flw .. | .fld .. | .fsw .. | .fsd ..
  | .fmaddS .. | .fmsubS .. | .fnmsubS .. | .fnmaddS .. | .faddS .. | .fsubS .. | .fmulS ..
  | .fdivS .. | .fsqrtS .. | .fsgnjS .. | .fsgnjnS .. | .fsgnjxS .. | .fminS .. | .fmaxS ..
  | .fleS .. | .fltS .. | .feqS .. | .fcvtWS .. | .fcvtWuS .. | .fcvtLS .. | .fcvtLuS ..
  | .fcvtSW .. | .fcvtSWu .. | .fcvtSL .. | .fcvtSLu .. | .fclassS .. | .fmvXW .. | .fmvWX ..
  | .fmaddD .. | .fmsubD .. | .fnmsubD .. | .fnmaddD .. | .faddD .. | .fsubD .. | .fmulD ..
  | .fdivD .. | .fsqrtD .. | .fsgnjD .. | .fsgnjnD .. | .fsgnjxD .. | .fminD .. | .fmaxD ..
  | .fleD .. | .fltD .. | .feqD .. | .fcvtWD .. | .fcvtWuD .. | .fcvtLD .. | .fcvtLuD ..
  | .fcvtDW .. | .fcvtDWu .. | .fcvtDL .. | .fcvtDLu .. | .fclassD .. | .fmvXD .. | .fmvDX ..
  | .fcvtSD .. | .fcvtDS .. | .fenceSystem .. => false

/-- `ilen`: 2 for a compressed source word, 4 otherwise (30_encoding R71). -/
def Instr.len (i : Instr) : Nat := if i.isCompressed then 2 else 4

/-! ## The compressed expander (40_compressed R120, R124 to R165)

The decoder above reads a compressed word directly. The spec's own route, expand and then decode the
32-bit word, is kept here, so that the two can be proved to agree (assumption log 10). -/

/-- The register a 3-bit field names: 8 to 15 (R120). -/
def creg (r : CRegIx) : RegIx := 0b01#2 ++ r

/-- Quadrant 0 of `Expand`. -/
def expand0 (xl : XLen) (c : CWord) : IWord :=
  let rd := creg (CFld.rdp c)
  let rs1 := creg (CFld.rs1p c)
  let uimmD : BitVec 12 := 0#4 ++ CFld.uimmD c ++ 0#3
  let uimmW : BitVec 12 := 0#5 ++ CFld.uimmW c ++ 0#2
  match CFld.funct3 c, xl with
  | 0#3, _ =>
    if CFld.immAddi4spn c = 0 then 0
    else encI 0x13#7 0#3 rd 2#5 (0#2 ++ CFld.immAddi4spn c ++ 0#2)
  | 1#3, _ => encI 0x07#7 3#3 rd rs1 uimmD
  | 2#3, _ => encI 0x03#7 2#3 rd rs1 uimmW
  | 3#3, .rv32 => encI 0x07#7 2#3 rd rs1 uimmW
  | 3#3, .rv64 => encI 0x03#7 3#3 rd rs1 uimmD
  | 5#3, _ => encS 0x27#7 3#3 rs1 rd uimmD
  | 6#3, _ => encS 0x23#7 2#3 rs1 rd uimmW
  | 7#3, .rv32 => encS 0x27#7 2#3 rs1 rd uimmW
  | 7#3, .rv64 => encS 0x23#7 3#3 rs1 rd uimmD
  | _, _ => 0

/-- Quadrant 1, funct3 4 of `Expand`. -/
def expand1Alu (xl : XLen) (c : CWord) : IWord :=
  let rd := creg (CFld.rs1p c)
  let rs2 := creg (CFld.rdp c)
  match c.extractLsb' 10 2 with
  | 0#2 =>
    if xl = .rv32 ∧ CFld.bit12 c = 1 then 0 else encI 0x13#7 5#3 rd rd (0#6 ++ CFld.imm6 c)
  | 1#2 =>
    if xl = .rv32 ∧ CFld.bit12 c = 1 then 0
    else encI 0x13#7 5#3 rd rd (0x400#12 ||| (0#6 ++ CFld.imm6 c))
  | 2#2 => encI 0x13#7 7#3 rd rd ((CFld.imm6 c).signExtend 12)
  | 3#2 =>
    match CFld.bit12 c, c.extractLsb' 5 2 with
    | 0#1, 0#2 => encR 0x33#7 0#3 0x20#7 rd rd rs2
    | 0#1, 1#2 => encR 0x33#7 4#3 0x00#7 rd rd rs2
    | 0#1, 2#2 => encR 0x33#7 6#3 0x00#7 rd rd rs2
    | 0#1, 3#2 => encR 0x33#7 7#3 0x00#7 rd rd rs2
    | 1#1, 0#2 => if xl = .rv32 then 0 else encR 0x3B#7 0#3 0x20#7 rd rd rs2
    | 1#1, 1#2 => if xl = .rv32 then 0 else encR 0x3B#7 0#3 0x00#7 rd rd rs2
    | _, _ => 0

/-- Quadrant 1 of `Expand`. -/
def expand1 (xl : XLen) (c : CWord) : IWord :=
  let rd := CFld.rd c
  let imm : BitVec 12 := (CFld.imm6 c).signExtend 12
  match CFld.funct3 c, xl with
  | 0#3, _ => encI 0x13#7 0#3 rd rd imm
  | 1#3, .rv32 => encJ 0x6F#7 1#5 ((CFld.offJ c).signExtend 20)
  | 1#3, .rv64 => if rd = 0 then 0 else encI 0x1B#7 0#3 rd rd imm
  | 2#3, _ => encI 0x13#7 0#3 rd 0#5 imm
  | 3#3, _ =>
    if rd = 2 then
      if CFld.immAddi16sp c = 0 then 0
      else encI 0x13#7 0#3 2#5 2#5 ((CFld.immAddi16sp c ++ 0#4).signExtend 12)
    else
      if CFld.imm6 c = 0 then 0 else encU 0x37#7 rd ((CFld.imm6 c).signExtend 20)
  | 4#3, _ => expand1Alu xl c
  | 5#3, _ => encJ 0x6F#7 0#5 ((CFld.offJ c).signExtend 20)
  | 6#3, _ => encB 0x63#7 0#3 (creg (CFld.rs1p c)) 0#5 ((CFld.offB c).signExtend 12)
  | 7#3, _ => encB 0x63#7 1#3 (creg (CFld.rs1p c)) 0#5 ((CFld.offB c).signExtend 12)

/-- Quadrant 2 of `Expand`. -/
def expand2 (xl : XLen) (c : CWord) : IWord :=
  let rd := CFld.rd c
  let rs2 := CFld.rs2 c
  match CFld.funct3 c, xl with
  | 0#3, _ =>
    if xl = .rv32 ∧ CFld.bit12 c = 1 then 0 else encI 0x13#7 1#3 rd rd (0#6 ++ CFld.imm6 c)
  | 1#3, _ => encI 0x07#7 3#3 rd 2#5 (0#3 ++ CFld.uimmLdsp c ++ 0#3)
  | 2#3, _ => if rd = 0 then 0 else encI 0x03#7 2#3 rd 2#5 (0#4 ++ CFld.uimmLwsp c ++ 0#2)
  | 3#3, .rv32 => encI 0x07#7 2#3 rd 2#5 (0#4 ++ CFld.uimmLwsp c ++ 0#2)
  | 3#3, .rv64 => if rd = 0 then 0 else encI 0x03#7 3#3 rd 2#5 (0#3 ++ CFld.uimmLdsp c ++ 0#3)
  | 4#3, _ =>
    match CFld.bit12 c with
    | 0#1 =>
      if rs2 = 0 then (if rd = 0 then 0 else encI 0x67#7 0#3 0#5 rd 0#12)
      else encR 0x33#7 0#3 0x00#7 rd 0#5 rs2
    | 1#1 =>
      if rs2 = 0 then (if rd = 0 then 0x00100073#32 else encI 0x67#7 0#3 1#5 rd 0#12)
      else encR 0x33#7 0#3 0x00#7 rd rd rs2
  | 5#3, _ => encS 0x27#7 3#3 2#5 rs2 (0#3 ++ CFld.uimmSdsp c ++ 0#3)
  | 6#3, _ => encS 0x23#7 2#3 2#5 rs2 (0#4 ++ CFld.uimmSwsp c ++ 0#2)
  | 7#3, .rv32 => encS 0x27#7 2#3 2#5 rs2 (0#4 ++ CFld.uimmSwsp c ++ 0#2)
  | 7#3, .rv64 => encS 0x23#7 3#3 2#5 rs2 (0#3 ++ CFld.uimmSdsp c ++ 0#3)

/-- `Expand` (R120): the 32-bit word of the equivalent base instruction, 0 for a reserved word
(R121). -/
def expand (xl : XLen) (c : CWord) : IWord :=
  match CFld.quadrant c with
  | 0#2 => expand0 xl c
  | 1#2 => expand1 xl c
  | 2#2 => expand2 xl c
  | 3#2 => 0

/-- The base instruction a compressed instruction stands for (R124 to R165), itself for the others. -/
def Instr.expansion : Instr → Instr
  | .cAddi4spn rd imm => .addi (creg rd) 2#5 (0#2 ++ imm ++ 0#2)
  | .cFld rd rs1 imm => .fld (creg rd) (creg rs1) (0#4 ++ imm ++ 0#3)
  | .cLw rd rs1 imm => .lw (creg rd) (creg rs1) (0#5 ++ imm ++ 0#2)
  | .cFlw rd rs1 imm => .flw (creg rd) (creg rs1) (0#5 ++ imm ++ 0#2)
  | .cLd rd rs1 imm => .ld (creg rd) (creg rs1) (0#4 ++ imm ++ 0#3)
  | .cFsd rs1 rs2 imm => .fsd (creg rs1) (creg rs2) (0#4 ++ imm ++ 0#3)
  | .cSw rs1 rs2 imm => .sw (creg rs1) (creg rs2) (0#5 ++ imm ++ 0#2)
  | .cFsw rs1 rs2 imm => .fsw (creg rs1) (creg rs2) (0#5 ++ imm ++ 0#2)
  | .cSd rs1 rs2 imm => .sd (creg rs1) (creg rs2) (0#4 ++ imm ++ 0#3)
  | .cNop imm => .addi 0#5 0#5 (imm.signExtend 12)
  | .cAddi rd imm => .addi rd rd (imm.signExtend 12)
  | .cJal off => .jal 1#5 (off.signExtend 20)
  | .cAddiw rd imm => .addiw rd rd (imm.signExtend 12)
  | .cLi rd imm => .addi rd 0#5 (imm.signExtend 12)
  | .cAddi16sp imm => .addi 2#5 2#5 ((imm ++ 0#4).signExtend 12)
  | .cLui rd imm => .lui rd (imm.signExtend 20)
  | .cSrli rd shamt => .srli (creg rd) (creg rd) shamt
  | .cSrai rd shamt => .srai (creg rd) (creg rd) shamt
  | .cAndi rd imm => .andi (creg rd) (creg rd) (imm.signExtend 12)
  | .cSub rd rs2 => .sub (creg rd) (creg rd) (creg rs2)
  | .cXor rd rs2 => .xor (creg rd) (creg rd) (creg rs2)
  | .cOr rd rs2 => .or (creg rd) (creg rd) (creg rs2)
  | .cAnd rd rs2 => .and (creg rd) (creg rd) (creg rs2)
  | .cSubw rd rs2 => .subw (creg rd) (creg rd) (creg rs2)
  | .cAddw rd rs2 => .addw (creg rd) (creg rd) (creg rs2)
  | .cJ off => .jal 0#5 (off.signExtend 20)
  | .cBeqz rs1 off => .beq (creg rs1) 0#5 (off.signExtend 12)
  | .cBnez rs1 off => .bne (creg rs1) 0#5 (off.signExtend 12)
  | .cSlli rd shamt => .slli rd rd shamt
  | .cFldsp rd imm => .fld rd 2#5 (0#3 ++ imm ++ 0#3)
  | .cLwsp rd imm => .lw rd 2#5 (0#4 ++ imm ++ 0#2)
  | .cFlwsp rd imm => .flw rd 2#5 (0#4 ++ imm ++ 0#2)
  | .cLdsp rd imm => .ld rd 2#5 (0#3 ++ imm ++ 0#3)
  | .cJr rs1 => .jalr 0#5 rs1 0#12
  | .cMv rd rs2 => .add rd 0#5 rs2
  | .cEbreak => .ebreak 0#5 0#5
  | .cJalr rs1 => .jalr 1#5 rs1 0#12
  | .cAdd rd rs2 => .add rd rd rs2
  | .cFsdsp rs2 imm => .fsd 2#5 rs2 (0#3 ++ imm ++ 0#3)
  | .cSwsp rs2 imm => .sw 2#5 rs2 (0#4 ++ imm ++ 0#2)
  | .cFswsp rs2 imm => .fsw 2#5 rs2 (0#4 ++ imm ++ 0#2)
  | .cSdsp rs2 imm => .sd 2#5 rs2 (0#3 ++ imm ++ 0#3)
  | .lui rd imm => .lui rd imm
  | .auipc rd imm => .auipc rd imm
  | .jal rd off => .jal rd off
  | .jalr rd rs1 imm => .jalr rd rs1 imm
  | .beq rs1 rs2 off => .beq rs1 rs2 off
  | .bne rs1 rs2 off => .bne rs1 rs2 off
  | .blt rs1 rs2 off => .blt rs1 rs2 off
  | .bge rs1 rs2 off => .bge rs1 rs2 off
  | .bltu rs1 rs2 off => .bltu rs1 rs2 off
  | .bgeu rs1 rs2 off => .bgeu rs1 rs2 off
  | .lb rd rs1 imm => .lb rd rs1 imm
  | .lh rd rs1 imm => .lh rd rs1 imm
  | .lw rd rs1 imm => .lw rd rs1 imm
  | .ld rd rs1 imm => .ld rd rs1 imm
  | .lbu rd rs1 imm => .lbu rd rs1 imm
  | .lhu rd rs1 imm => .lhu rd rs1 imm
  | .lwu rd rs1 imm => .lwu rd rs1 imm
  | .sb rs1 rs2 imm => .sb rs1 rs2 imm
  | .sh rs1 rs2 imm => .sh rs1 rs2 imm
  | .sw rs1 rs2 imm => .sw rs1 rs2 imm
  | .sd rs1 rs2 imm => .sd rs1 rs2 imm
  | .addi rd rs1 imm => .addi rd rs1 imm
  | .slti rd rs1 imm => .slti rd rs1 imm
  | .sltiu rd rs1 imm => .sltiu rd rs1 imm
  | .xori rd rs1 imm => .xori rd rs1 imm
  | .ori rd rs1 imm => .ori rd rs1 imm
  | .andi rd rs1 imm => .andi rd rs1 imm
  | .slli rd rs1 shamt => .slli rd rs1 shamt
  | .srli rd rs1 shamt => .srli rd rs1 shamt
  | .srai rd rs1 shamt => .srai rd rs1 shamt
  | .add rd rs1 rs2 => .add rd rs1 rs2
  | .sub rd rs1 rs2 => .sub rd rs1 rs2
  | .sll rd rs1 rs2 => .sll rd rs1 rs2
  | .slt rd rs1 rs2 => .slt rd rs1 rs2
  | .sltu rd rs1 rs2 => .sltu rd rs1 rs2
  | .xor rd rs1 rs2 => .xor rd rs1 rs2
  | .srl rd rs1 rs2 => .srl rd rs1 rs2
  | .sra rd rs1 rs2 => .sra rd rs1 rs2
  | .or rd rs1 rs2 => .or rd rs1 rs2
  | .and rd rs1 rs2 => .and rd rs1 rs2
  | .fence fm pred succ rs1 rd => .fence fm pred succ rs1 rd
  | .fenceI imm rs1 rd => .fenceI imm rs1 rd
  | .ecall rs1 rd => .ecall rs1 rd
  | .ebreak rs1 rd => .ebreak rs1 rd
  | .uret rs1 rd => .uret rs1 rd
  | .sret rs1 rd => .sret rs1 rd
  | .mret rs1 rd => .mret rs1 rd
  | .wfi rs1 rd => .wfi rs1 rd
  | .sfenceVma rs1 rs2 rd => .sfenceVma rs1 rs2 rd
  | .csrrw rd csr rs1 => .csrrw rd csr rs1
  | .csrrs rd csr rs1 => .csrrs rd csr rs1
  | .csrrc rd csr rs1 => .csrrc rd csr rs1
  | .csrrwi rd csr zimm => .csrrwi rd csr zimm
  | .csrrsi rd csr zimm => .csrrsi rd csr zimm
  | .csrrci rd csr zimm => .csrrci rd csr zimm
  | .mul rd rs1 rs2 => .mul rd rs1 rs2
  | .mulh rd rs1 rs2 => .mulh rd rs1 rs2
  | .mulhsu rd rs1 rs2 => .mulhsu rd rs1 rs2
  | .mulhu rd rs1 rs2 => .mulhu rd rs1 rs2
  | .div rd rs1 rs2 => .div rd rs1 rs2
  | .divu rd rs1 rs2 => .divu rd rs1 rs2
  | .rem rd rs1 rs2 => .rem rd rs1 rs2
  | .remu rd rs1 rs2 => .remu rd rs1 rs2
  | .addiw rd rs1 imm => .addiw rd rs1 imm
  | .slliw rd rs1 shamt => .slliw rd rs1 shamt
  | .srliw rd rs1 shamt => .srliw rd rs1 shamt
  | .sraiw rd rs1 shamt => .sraiw rd rs1 shamt
  | .addw rd rs1 rs2 => .addw rd rs1 rs2
  | .subw rd rs1 rs2 => .subw rd rs1 rs2
  | .sllw rd rs1 rs2 => .sllw rd rs1 rs2
  | .srlw rd rs1 rs2 => .srlw rd rs1 rs2
  | .sraw rd rs1 rs2 => .sraw rd rs1 rs2
  | .mulw rd rs1 rs2 => .mulw rd rs1 rs2
  | .divw rd rs1 rs2 => .divw rd rs1 rs2
  | .divuw rd rs1 rs2 => .divuw rd rs1 rs2
  | .remw rd rs1 rs2 => .remw rd rs1 rs2
  | .remuw rd rs1 rs2 => .remuw rd rs1 rs2
  | .lrW rd rs1 rs2 aq rl => .lrW rd rs1 rs2 aq rl
  | .scW rd rs1 rs2 aq rl => .scW rd rs1 rs2 aq rl
  | .amoswapW rd rs1 rs2 aq rl => .amoswapW rd rs1 rs2 aq rl
  | .amoaddW rd rs1 rs2 aq rl => .amoaddW rd rs1 rs2 aq rl
  | .amoxorW rd rs1 rs2 aq rl => .amoxorW rd rs1 rs2 aq rl
  | .amoandW rd rs1 rs2 aq rl => .amoandW rd rs1 rs2 aq rl
  | .amoorW rd rs1 rs2 aq rl => .amoorW rd rs1 rs2 aq rl
  | .amominW rd rs1 rs2 aq rl => .amominW rd rs1 rs2 aq rl
  | .amomaxW rd rs1 rs2 aq rl => .amomaxW rd rs1 rs2 aq rl
  | .amominuW rd rs1 rs2 aq rl => .amominuW rd rs1 rs2 aq rl
  | .amomaxuW rd rs1 rs2 aq rl => .amomaxuW rd rs1 rs2 aq rl
  | .lrD rd rs1 rs2 aq rl => .lrD rd rs1 rs2 aq rl
  | .scD rd rs1 rs2 aq rl => .scD rd rs1 rs2 aq rl
  | .amoswapD rd rs1 rs2 aq rl => .amoswapD rd rs1 rs2 aq rl
  | .amoaddD rd rs1 rs2 aq rl => .amoaddD rd rs1 rs2 aq rl
  | .amoxorD rd rs1 rs2 aq rl => .amoxorD rd rs1 rs2 aq rl
  | .amoandD rd rs1 rs2 aq rl => .amoandD rd rs1 rs2 aq rl
  | .amoorD rd rs1 rs2 aq rl => .amoorD rd rs1 rs2 aq rl
  | .amominD rd rs1 rs2 aq rl => .amominD rd rs1 rs2 aq rl
  | .amomaxD rd rs1 rs2 aq rl => .amomaxD rd rs1 rs2 aq rl
  | .amominuD rd rs1 rs2 aq rl => .amominuD rd rs1 rs2 aq rl
  | .amomaxuD rd rs1 rs2 aq rl => .amomaxuD rd rs1 rs2 aq rl
  | .flw rd rs1 imm => .flw rd rs1 imm
  | .fld rd rs1 imm => .fld rd rs1 imm
  | .fsw rs1 rs2 imm => .fsw rs1 rs2 imm
  | .fsd rs1 rs2 imm => .fsd rs1 rs2 imm
  | .fmaddS rd rs1 rs2 rs3 rm => .fmaddS rd rs1 rs2 rs3 rm
  | .fmsubS rd rs1 rs2 rs3 rm => .fmsubS rd rs1 rs2 rs3 rm
  | .fnmsubS rd rs1 rs2 rs3 rm => .fnmsubS rd rs1 rs2 rs3 rm
  | .fnmaddS rd rs1 rs2 rs3 rm => .fnmaddS rd rs1 rs2 rs3 rm
  | .faddS rd rs1 rs2 rm => .faddS rd rs1 rs2 rm
  | .fsubS rd rs1 rs2 rm => .fsubS rd rs1 rs2 rm
  | .fmulS rd rs1 rs2 rm => .fmulS rd rs1 rs2 rm
  | .fdivS rd rs1 rs2 rm => .fdivS rd rs1 rs2 rm
  | .fsqrtS rd rs1 rm => .fsqrtS rd rs1 rm
  | .fsgnjS rd rs1 rs2 => .fsgnjS rd rs1 rs2
  | .fsgnjnS rd rs1 rs2 => .fsgnjnS rd rs1 rs2
  | .fsgnjxS rd rs1 rs2 => .fsgnjxS rd rs1 rs2
  | .fminS rd rs1 rs2 => .fminS rd rs1 rs2
  | .fmaxS rd rs1 rs2 => .fmaxS rd rs1 rs2
  | .fleS rd rs1 rs2 => .fleS rd rs1 rs2
  | .fltS rd rs1 rs2 => .fltS rd rs1 rs2
  | .feqS rd rs1 rs2 => .feqS rd rs1 rs2
  | .fcvtWS rd rs1 rm => .fcvtWS rd rs1 rm
  | .fcvtWuS rd rs1 rm => .fcvtWuS rd rs1 rm
  | .fcvtLS rd rs1 rm => .fcvtLS rd rs1 rm
  | .fcvtLuS rd rs1 rm => .fcvtLuS rd rs1 rm
  | .fcvtSW rd rs1 rm => .fcvtSW rd rs1 rm
  | .fcvtSWu rd rs1 rm => .fcvtSWu rd rs1 rm
  | .fcvtSL rd rs1 rm => .fcvtSL rd rs1 rm
  | .fcvtSLu rd rs1 rm => .fcvtSLu rd rs1 rm
  | .fclassS rd rs1 => .fclassS rd rs1
  | .fmvXW rd rs1 => .fmvXW rd rs1
  | .fmvWX rd rs1 => .fmvWX rd rs1
  | .fmaddD rd rs1 rs2 rs3 rm => .fmaddD rd rs1 rs2 rs3 rm
  | .fmsubD rd rs1 rs2 rs3 rm => .fmsubD rd rs1 rs2 rs3 rm
  | .fnmsubD rd rs1 rs2 rs3 rm => .fnmsubD rd rs1 rs2 rs3 rm
  | .fnmaddD rd rs1 rs2 rs3 rm => .fnmaddD rd rs1 rs2 rs3 rm
  | .faddD rd rs1 rs2 rm => .faddD rd rs1 rs2 rm
  | .fsubD rd rs1 rs2 rm => .fsubD rd rs1 rs2 rm
  | .fmulD rd rs1 rs2 rm => .fmulD rd rs1 rs2 rm
  | .fdivD rd rs1 rs2 rm => .fdivD rd rs1 rs2 rm
  | .fsqrtD rd rs1 rm => .fsqrtD rd rs1 rm
  | .fsgnjD rd rs1 rs2 => .fsgnjD rd rs1 rs2
  | .fsgnjnD rd rs1 rs2 => .fsgnjnD rd rs1 rs2
  | .fsgnjxD rd rs1 rs2 => .fsgnjxD rd rs1 rs2
  | .fminD rd rs1 rs2 => .fminD rd rs1 rs2
  | .fmaxD rd rs1 rs2 => .fmaxD rd rs1 rs2
  | .fleD rd rs1 rs2 => .fleD rd rs1 rs2
  | .fltD rd rs1 rs2 => .fltD rd rs1 rs2
  | .feqD rd rs1 rs2 => .feqD rd rs1 rs2
  | .fcvtWD rd rs1 rm => .fcvtWD rd rs1 rm
  | .fcvtWuD rd rs1 rm => .fcvtWuD rd rs1 rm
  | .fcvtLD rd rs1 rm => .fcvtLD rd rs1 rm
  | .fcvtLuD rd rs1 rm => .fcvtLuD rd rs1 rm
  | .fcvtDW rd rs1 rm => .fcvtDW rd rs1 rm
  | .fcvtDWu rd rs1 rm => .fcvtDWu rd rs1 rm
  | .fcvtDL rd rs1 rm => .fcvtDL rd rs1 rm
  | .fcvtDLu rd rs1 rm => .fcvtDLu rd rs1 rm
  | .fclassD rd rs1 => .fclassD rd rs1
  | .fmvXD rd rs1 => .fmvXD rd rs1
  | .fmvDX rd rs1 => .fmvDX rd rs1
  | .fcvtSD rd rs1 rm => .fcvtSD rd rs1 rm
  | .fcvtDS rd rs1 rm => .fcvtDS rd rs1 rm
  | .fenceSystem funct12 rs1 rd => .fenceSystem funct12 rs1 rd

/-! ## The host's table words -/

/-- The raw word that `nbits` bits numbered as the opcode table numbers them stand for: the bits
above `nbits` are zero. A word's byte order is little-endian (20_memory R56), so that numbering is
the raw word's own. -/
def tableRaw (nbits w : Nat) : IWord := BitVec.ofNat 32 (w % 2 ^ nbits)

/-- The instruction the decoder reads from a table word at XLEN 64, the reset XLEN (assumption log
12). -/
def decodeTableWord (nbits w : Nat) : Option Instr :=
  match decode Config.recommended.xlen (tableRaw nbits w) with
  | .ok i => some i
  | .error _ => none

end Sys2Proof
end

