-- ==== Sys2Proof/Machine/Operands.lean ====
section
/-! DEFINITION. Values of XLEN bits in 64-bit slots, immediates, shift amounts and target addresses (00_scope R7 to R9, 30_encoding R77 to R83). -/

namespace Sys2Proof.Machine

/-! ## XLEN-bit arithmetic in a 64-bit slot (assumption log 3)

An operation is written once, at any width; these lift it to XLEN bits. -/

/-- `trunc_XLEN` and `zext_XLEN`: the low XLEN bits of a value, or the value zero-extended. -/
def xzext {n : Nat} (xl : XLen) (v : BitVec n) : Word := (v.setWidth xl.bits).setWidth 64

/-- `sext_XLEN`: the value sign-extended to XLEN bits. -/
def xsext {n : Nat} (xl : XLen) (v : BitVec n) : Word := (v.signExtend xl.bits).setWidth 64

/-- A binary operation on XLEN-bit values. -/
def xbin (xl : XLen) (f : {w : Nat} → BitVec w → BitVec w → BitVec w) (a b : Word) : Word :=
  (f (a.setWidth xl.bits) (b.setWidth xl.bits)).setWidth 64

/-- A comparison of XLEN-bit values. -/
def xrel (xl : XLen) (f : {w : Nat} → BitVec w → BitVec w → Bool) (a b : Word) : Bool :=
  f (a.setWidth xl.bits) (b.setWidth xl.bits)

/-- `bool`: a truth value as an XLEN-bit 0 or 1. -/
def boolWord (b : Bool) : Word := if b then 1 else 0

/-- Addition modulo 2^XLEN (00_scope R9). -/
def xadd (xl : XLen) (a b : Word) : Word := xbin xl (fun x y => x + y) a b

/-! ## Immediates -/

/-- The I-immediate and the S-immediate (30_encoding R77, R78). -/
def immValue (xl : XLen) (imm : BitVec 12) : Word := xsext xl imm

/-- The U-immediate (R79): bits 31:12 of the word, sign-extended from bit 31. -/
def upperValue (xl : XLen) (imm : BitVec 20) : Word := xsext xl (imm ++ 0#12)

/-- The B-immediate (R80) from its bits 12:1. -/
def branchOffset (xl : XLen) (off : BitVec 12) : Word := xsext xl (off ++ 0#1)

/-- The J-immediate (R81) from its bits 20:1. -/
def jumpOffset (xl : XLen) (off : BitVec 20) : Word := xsext xl (off ++ 0#1)

/-- The shift amount of a shift-immediate (R82). -/
def shamtValue (xl : XLen) (shamt : BitVec 6) : Word := xzext xl shamt

/-- The bit that JALR clears in its target (44_control R276). -/
def clearBit0 (a : Word) : Word := a &&& ~~~1#64

/-! ## The immediates of the compressed forms, as the base instruction takes them (40_compressed) -/

/-- `sext_12({c[12], c[6:2]})` (R134). -/
def immCi (imm : BitVec 6) : BitVec 12 := imm.signExtend 12

/-- nzimm of C.ADDI16SP (R138). -/
def immCi16 (imm : BitVec 6) : BitVec 12 := (imm ++ 0#4).signExtend 12

/-- nzuimm of C.ADDI4SPN (R124). -/
def immCiw (imm : BitVec 8) : BitVec 12 := 0#2 ++ imm ++ 0#2

/-- uimm of the doubleword CL and CS forms (R125). -/
def immClD (imm : BitVec 5) : BitVec 12 := 0#4 ++ imm ++ 0#3

/-- uimm of the word CL and CS forms (R126). -/
def immClW (imm : BitVec 5) : BitVec 12 := 0#5 ++ imm ++ 0#2

/-- uimm of the stack-pointer-relative doubleword forms (R153, R162). -/
def immSpD (imm : BitVec 6) : BitVec 12 := 0#3 ++ imm ++ 0#3

/-- uimm of the stack-pointer-relative word forms (R154, R163). -/
def immSpW (imm : BitVec 6) : BitVec 12 := 0#4 ++ imm ++ 0#2

/-- The stack pointer, the base register of the stack-pointer-relative forms (40_compressed R120). -/
def sp : RegIx := 2#5

/-- The link register of C.JAL and C.JALR (40_compressed R135, R160). -/
def ra : RegIx := 1#5

end Sys2Proof.Machine
end

