-- ==== Sys2Proof/Machine/State.lean ====
section
/-! DEFINITION. The state of the machine, the reasons a step can stop, and the state after reset. -/

namespace Sys2Proof.Machine

/-- Why the run has no next step. No instruction raises either: the step itself does, before it
takes a word (70_reset_and_hazards R526, assumption log 6). -/
inductive Fault where
  /-- The END_OF_RUN condition holds, so the run loop of R526 stops. Safe. -/
  | endOfRun
  /-- FETCH = stream has no next word while END_OF_RUN is not `stream_end`. DESIGN CHOICE, safe. -/
  | streamExhausted
  deriving DecidableEq, Repr

/-- An instruction with no meaning. No arm of `exec` refuses: every instruction has its meaning. -/
inductive Refusal where
  /-- The instruction of this mnemonic is not modelled. Raised by nothing. Safe. -/
  | notModelled (mnemonic : String)
  deriving DecidableEq, Repr

/-- Everything the spec gives the machine (10_state R20 to R35), the memory collaborator's contents
(20_memory R50), the word stream (20_memory R64) and the run's parameters (00_scope R6). -/
structure State where
  /-- The parameters of 00_scope R6, which no step changes (assumption log 1). -/
  cfg : Config
  /-- x0 to x31, each XLEN bits in a 64-bit slot (R20, assumption log 3). Slot 0 is never read. -/
  x : Vector Word 32
  /-- The program counter, XLEN bits (R22). -/
  pc : Word
  /-- FS[0..31], the binary32 bank (R25). -/
  fs : Vector (BitVec 32) 32
  /-- FD[0..31], the binary64 bank (R25). -/
  fd : Vector (BitVec 64) 32
  /-- CSR 0x300, fields MIE, MPIE and MPP (R28, R29). -/
  mstatus : CsrWord
  /-- CSR 0x305, the trap target (R28). -/
  mtvec : CsrWord
  /-- CSR 0x341 (R28). -/
  mepc : CsrWord
  /-- CSR 0x342 (R28). -/
  mcause : CsrWord
  /-- CSR 0x100, fields SIE, SPIE and SPP; no view of mstatus (R28, R30). -/
  sstatus : CsrWord
  /-- CSR 0x141 (R28). -/
  sepc : CsrWord
  /-- CSR 0x142 (R28). -/
  scause : CsrWord
  /-- The inert CSRs by address, in canonical form: addresses rising, no zero value (R27, R31,
  assumption log 11). -/
  csrs : List (Nat × CsrWord)
  /-- The privilege level: 0 User, 1 Supervisor, 2 reserved, 3 Machine (R32). -/
  priv : BitVec 2
  /-- The reservation's address, XLEN bits (R33). -/
  resvAddr : Word
  /-- The reservation's valid bit (R33). -/
  resvValid : Bool
  /-- The memory collaborator's bytes, in canonical form: addresses rising, no zero byte (20_memory
  R50, assumption log 4). -/
  mem : List Host.Cell
  /-- The words of the harness stream not yet fed (20_memory R64, assumption log 5). -/
  stream : List IWord
  /-- The number of steps taken, which `fuel(n)` counts (70_reset_and_hazards R526). -/
  steps : Nat
  /-- The model's own: the index of the next free value (assumption log 7). -/
  free : Nat
  deriving DecidableEq, Repr

/-- Reset with given parameters (10_state R35, 70_reset_and_hazards R520): memory and stream, the
inputs of the run, list nothing (assumption logs 4 and 5). -/
def State.resetFor (cfg : Config) : State where
  cfg := cfg
  x := Vector.replicate 32 0
  pc := 0
  fs := Vector.replicate 32 0
  fd := Vector.replicate 32 0
  mstatus := 0
  mtvec := 0
  mepc := 0
  mcause := 0
  sstatus := 0
  sepc := 0
  scause := 0
  csrs := []
  priv := 3
  resvAddr := 0
  resvValid := false
  mem := []
  stream := []
  steps := 0
  free := 0

/-- The machine right after reset, with the recommended parameters (00_scope R6) at XLEN 64
(assumption log 2). -/
def State.reset : State := State.resetFor Config.recommended

end Sys2Proof.Machine
end

