-- ==== Sys2Proof/Machine/Ops.lean ====
section
/-! DEFINITION. The named operations every meaning is written with: sparse storage, registers, CSRs, memory, the pc, trap entry and trap return. -/

namespace Sys2Proof.Machine

/-- What a meaning answers. -/
abbrev Result := Host.Outcome State Fault Refusal

/-! ## Sparse storage in one canonical form

A list of (key, value) pairs, keys strictly rising, no value zero. A key that is not listed reads as
zero (assumption logs 4 and 11). -/

/-- The value at a key. -/
def sparseGet {n : Nat} : List (Nat × BitVec n) → Nat → BitVec n
  | [], _ => 0
  | (a, v) :: t, k => if a = k then v else sparseGet t k

/-- The storage with the value at a key replaced; writing zero removes the entry. -/
def sparsePut {n : Nat} : List (Nat × BitVec n) → Nat → BitVec n → List (Nat × BitVec n)
  | [], k, v => if v = 0 then [] else [(k, v)]
  | (a, u) :: t, k, v =>
    if k < a then if v = 0 then (a, u) :: t else (k, v) :: (a, u) :: t
    else if k = a then if v = 0 then t else (k, v) :: t
    else (a, u) :: sparsePut t k v

/-- Canonical, with every key in `lo ≤ key < hi`. -/
def sparseWf {n : Nat} (hi : Nat) : Nat → List (Nat × BitVec n) → Bool
  | _, [] => true
  | lo, (a, v) :: t => decide (lo ≤ a) && decide (a < hi) && v != 0 && sparseWf hi (a + 1) t

/-- The canonical form of a memory of `size` bytes (20_memory R50, R61). -/
def Memory.wf (size : Nat) (m : List Host.Cell) : Bool := sparseWf size 0 m

/-- The canonical form of the inert CSRs: 12-bit addresses (10_state R27). -/
def csrsWf (l : List (Nat × CsrWord)) : Bool := sparseWf 4096 0 l

/-! ## Bytes of memory, little-endian (20_memory R53, R54, R56) -/

/-- The `n` bytes from address `a` up, the byte at the lowest address in bits 7:0. -/
def loadBytes (m : List Host.Cell) (a : Nat) : (n : Nat) → BitVec (8 * n)
  | 0 => 0#0
  | n + 1 => (sparseGet m (a + n) ++ loadBytes m a n).cast (by omega)

/-- Memory after bits 7:0 of `v` go to address `a`, the next 8 bits to `a + 1`, and so on for `n`
bytes. -/
def storeBytes {w : Nat} (m : List Host.Cell) (a : Nat) (v : BitVec w) : Nat → List Host.Cell
  | 0 => m
  | n + 1 => sparsePut (storeBytes m a v n) (a + n) (v.extractLsb' (8 * n) 8)

/-- The in-range condition, on unbounded integers (20_memory R52). -/
def State.inRange (s : State) (a : Word) (n : Nat) : Bool := decide (a.toNat + n ≤ s.cfg.memSize)

/-- `MemRead(a, n)` (20_memory R53): none stands for the trap that OOB_POLICY = trap raises. -/
def State.memRead (s : State) (a : Word) (n : Nat) : Option (BitVec (8 * n)) :=
  if s.inRange a n then some (loadBytes s.mem a.toNat n)
  else
    match s.cfg.oobPolicy with
    | .zero => some 0
    | .trap => none

/-- `MemWrite(a, n, v)` (20_memory R54): none stands for the trap that OOB_POLICY = trap raises. -/
def State.memWrite {w : Nat} (s : State) (a : Word) (n : Nat) (v : BitVec w) : Option State :=
  if s.inRange a n then some { s with mem := storeBytes s.mem a.toNat v n }
  else
    match s.cfg.oobPolicy with
    | .zero => some s
    | .trap => none

/-! ## Registers -/

/-- x[r]: x0 reads as 0 (10_state R20). -/
def State.getX (s : State) (r : RegIx) : Word :=
  if r = 0 then 0 else s.x[r.toNat]

/-- x[r] <- v, the low XLEN bits; a write to x0 is discarded (10_state R20). -/
def State.setX (s : State) (r : RegIx) (v : Word) : State :=
  if r = 0 then s else { s with x := s.x.set r.toNat (xzext s.cfg.xlen v) }

/-- FS[r] (10_state R25). -/
def State.getS (s : State) (r : RegIx) : BitVec 32 := s.fs[r.toNat]

/-- FS[r] <- v (10_state R25). -/
def State.setS (s : State) (r : RegIx) (v : BitVec 32) : State :=
  { s with fs := s.fs.set r.toNat v }

/-- FD[r] (10_state R25). -/
def State.getD (s : State) (r : RegIx) : BitVec 64 := s.fd[r.toNat]

/-- FD[r] <- v (10_state R25). -/
def State.setD (s : State) (r : RegIx) (v : BitVec 64) : State :=
  { s with fd := s.fd.set r.toNat v }

/-- pc <- a, XLEN bits (10_state R22). -/
def State.setPc (s : State) (a : Word) : State := { s with pc := xzext s.cfg.xlen a }

/-- The address of the next instruction: pc + ilen modulo 2^XLEN (10_state R23, 44_control R270). -/
def State.nextPc (s : State) (len : Nat) : Word := xadd s.cfg.xlen s.pc (BitVec.ofNat 64 len)

/-- The default advance (10_state R23). -/
def State.advance (s : State) (len : Nat) : State := s.setPc (s.nextPc len)

/-! ## CSRs (10_state R27, R28) -/

/-- CSR[a]: the seven live CSRs by name, the rest by address. -/
def State.getCsr (s : State) (a : BitVec 12) : CsrWord :=
  match a with
  | 0x100#12 => s.sstatus
  | 0x141#12 => s.sepc
  | 0x142#12 => s.scause
  | 0x300#12 => s.mstatus
  | 0x305#12 => s.mtvec
  | 0x341#12 => s.mepc
  | 0x342#12 => s.mcause
  | _ => sparseGet s.csrs a.toNat

/-- CSR[a] <- v. -/
def State.setCsr (s : State) (a : BitVec 12) (v : CsrWord) : State :=
  match a with
  | 0x100#12 => { s with sstatus := v }
  | 0x141#12 => { s with sepc := v }
  | 0x142#12 => { s with scause := v }
  | 0x300#12 => { s with mstatus := v }
  | 0x305#12 => { s with mtvec := v }
  | 0x341#12 => { s with mepc := v }
  | 0x342#12 => { s with mcause := v }
  | _ => { s with csrs := sparsePut s.csrs a.toNat v }

/-! ## Taking an exception, and returning from one -/

/-- The causes (60_exceptions R480). -/
inductive Cause where
  | instrAccess
  | illegal
  | breakpoint
  | loadAccess
  | storeAccess
  | ecall (priv : BitVec 2)
  deriving DecidableEq, Repr

/-- The code of a cause (60_exceptions R480). -/
def causeCode : Cause → CsrWord
  | .instrAccess => 1
  | .illegal => 2
  | .breakpoint => 3
  | .loadAccess => 5
  | .storeAccess => 7
  | .ecall priv => 8 + priv.setWidth 32

/-- A trap writes sepc and scause (60_exceptions R482). -/
def State.trapsToS (s : State) : Bool :=
  match s.cfg.trapCsrs with
  | .machine => false
  | .byLevel => s.priv == 1#2

/-- Trap entry, first part: the pc and the cause are recorded (60_exceptions R481, R482). -/
def State.recordTrap (s : State) (c : Cause) : State :=
  if s.trapsToS then { s with sepc := s.pc.setWidth 32, scause := causeCode c }
  else { s with mepc := s.pc.setWidth 32, mcause := causeCode c }

/-- Trap entry, second part: mstatus by TRAP_STACK (60_exceptions R482). -/
def State.stackTrap (s : State) : State :=
  match s.cfg.trapStack with
  | .none => s
  | .standard => { s with mstatus := mstatusOnTrap s.priv s.mstatus }

/-- `raise Trap(c)` (60_exceptions R482): record, stack, enter Machine, jump to mtvec. -/
def State.trap (s : State) (c : Cause) : State :=
  let t := (s.recordTrap c).stackTrap
  { t with priv := 3, pc := xzext t.cfg.xlen t.mtvec }

/-- MRET (45_system R283). -/
def State.mret (s : State) : State :=
  { s with
    pc := xzext s.cfg.xlen s.mepc
    priv := mpp s.mstatus
    mstatus := mstatusOnMret s.mstatus }

/-- SRET (45_system R284). -/
def State.sret (s : State) : State :=
  { s with
    pc := xzext s.cfg.xlen s.sepc
    priv := sretPriv s.sstatus
    sstatus := sstatusOnSret s.sstatus }

/-! ## Kind Unknown -/

/-- Executing kind Unknown (45_system R305). -/
def opUnknown (len : Nat) (s : State) : State :=
  match s.cfg.unknownPolicy with
  | .skip => s.advance len
  | .trap => s.trap .illegal

/-- An instruction of one XLEN only: at the other XLEN its word is kind Unknown (30_encoding R106,
assumption log 8). -/
def onlyAt (xl : XLen) (len : Nat) (s : State) (k : State) : State :=
  if s.cfg.xlen = xl then k else opUnknown len s

end Sys2Proof.Machine
end

