-- ==== Sys2Proof/Machine/Alu.lean ====
section
/-! DEFINITION. Integer ALU, immediates and upper immediates (41_alu). -/

namespace Sys2Proof.Machine

/-! ## Operations at any width (00_scope R7) -/

/-- The shift amount an operand holds: masked to w - 1 (SHMASK, 41_alu R183). -/
def shiftBy {w : Nat} (b : BitVec w) : Nat := (b &&& BitVec.ofNat w (w - 1)).toNat

def addOp {w : Nat} (a b : BitVec w) : BitVec w := a + b
def subOp {w : Nat} (a b : BitVec w) : BitVec w := a - b
def sllOp {w : Nat} (a b : BitVec w) : BitVec w := a <<< shiftBy b
def srlOp {w : Nat} (a b : BitVec w) : BitVec w := a >>> shiftBy b
def sraOp {w : Nat} (a b : BitVec w) : BitVec w := a.sshiftRight (shiftBy b)
def xorOp {w : Nat} (a b : BitVec w) : BitVec w := a ^^^ b
def orOp {w : Nat} (a b : BitVec w) : BitVec w := a ||| b
def andOp {w : Nat} (a b : BitVec w) : BitVec w := a &&& b
def ltsOp {w : Nat} (a b : BitVec w) : Bool := a.slt b
def ltuOp {w : Nat} (a b : BitVec w) : Bool := a.ult b
def eqOp {w : Nat} (a b : BitVec w) : Bool := a == b

/-! ## Shared operations: `len` is the length of the source word (40_compressed R166) -/

/-- x[rd] <- v and the default advance: how every instruction that only computes a value ends. -/
def State.retX (s : State) (len : Nat) (rd : RegIx) (v : Word) : State := (s.setX rd v).advance len

/-- A register-register operation. -/
def State.aluReg (s : State) (len : Nat) (f : {w : Nat} → BitVec w → BitVec w → BitVec w)
    (rd rs1 rs2 : RegIx) : State :=
  s.retX len rd (xbin s.cfg.xlen f (s.getX rs1) (s.getX rs2))

/-- A register-immediate operation. -/
def State.aluImm (s : State) (len : Nat) (f : {w : Nat} → BitVec w → BitVec w → BitVec w)
    (rd rs1 : RegIx) (imm : BitVec 12) : State :=
  s.retX len rd (xbin s.cfg.xlen f (s.getX rs1) (immValue s.cfg.xlen imm))

/-- A shift by an immediate. -/
def State.aluShift (s : State) (len : Nat) (f : {w : Nat} → BitVec w → BitVec w → BitVec w)
    (rd rs1 : RegIx) (shamt : BitVec 6) : State :=
  s.retX len rd (xbin s.cfg.xlen f (s.getX rs1) (shamtValue s.cfg.xlen shamt))

/-- A comparison of registers, its truth value the result. -/
def State.cmpReg (s : State) (len : Nat) (f : {w : Nat} → BitVec w → BitVec w → Bool)
    (rd rs1 rs2 : RegIx) : State :=
  s.retX len rd (boolWord (xrel s.cfg.xlen f (s.getX rs1) (s.getX rs2)))

/-- A comparison with an immediate. -/
def State.cmpImm (s : State) (len : Nat) (f : {w : Nat} → BitVec w → BitVec w → Bool)
    (rd rs1 : RegIx) (imm : BitVec 12) : State :=
  s.retX len rd (boolWord (xrel s.cfg.xlen f (s.getX rs1) (immValue s.cfg.xlen imm)))

/-- LUI. -/
def State.loadUpper (s : State) (len : Nat) (rd : RegIx) (imm : BitVec 20) : State :=
  s.retX len rd (upperValue s.cfg.xlen imm)

/-! ## Meanings -/

/-- ADD (R181). -/
def execAdd (rd rs1 rs2 : RegIx) (s : State) : Result :=
  .next (s.aluReg 4 addOp rd rs1 rs2)

/-- SUB (R182). -/
def execSub (rd rs1 rs2 : RegIx) (s : State) : Result :=
  .next (s.aluReg 4 subOp rd rs1 rs2)

/-- SLL (R183). -/
def execSll (rd rs1 rs2 : RegIx) (s : State) : Result :=
  .next (s.aluReg 4 sllOp rd rs1 rs2)

/-- SLT (R184). -/
def execSlt (rd rs1 rs2 : RegIx) (s : State) : Result :=
  .next (s.cmpReg 4 ltsOp rd rs1 rs2)

/-- SLTU (R185). -/
def execSltu (rd rs1 rs2 : RegIx) (s : State) : Result :=
  .next (s.cmpReg 4 ltuOp rd rs1 rs2)

/-- XOR (R186). -/
def execXor (rd rs1 rs2 : RegIx) (s : State) : Result :=
  .next (s.aluReg 4 xorOp rd rs1 rs2)

/-- SRL (R187). -/
def execSrl (rd rs1 rs2 : RegIx) (s : State) : Result :=
  .next (s.aluReg 4 srlOp rd rs1 rs2)

/-- SRA (R188). -/
def execSra (rd rs1 rs2 : RegIx) (s : State) : Result :=
  .next (s.aluReg 4 sraOp rd rs1 rs2)

/-- OR (R189). -/
def execOr (rd rs1 rs2 : RegIx) (s : State) : Result :=
  .next (s.aluReg 4 orOp rd rs1 rs2)

/-- AND (R190). -/
def execAnd (rd rs1 rs2 : RegIx) (s : State) : Result :=
  .next (s.aluReg 4 andOp rd rs1 rs2)

/-- ADDI (R191). -/
def execAddi (rd rs1 : RegIx) (imm : BitVec 12) (s : State) : Result :=
  .next (s.aluImm 4 addOp rd rs1 imm)

/-- SLTI (R192). -/
def execSlti (rd rs1 : RegIx) (imm : BitVec 12) (s : State) : Result :=
  .next (s.cmpImm 4 ltsOp rd rs1 imm)

/-- SLTIU (R193). -/
def execSltiu (rd rs1 : RegIx) (imm : BitVec 12) (s : State) : Result :=
  .next (s.cmpImm 4 ltuOp rd rs1 imm)

/-- XORI (R194). -/
def execXori (rd rs1 : RegIx) (imm : BitVec 12) (s : State) : Result :=
  .next (s.aluImm 4 xorOp rd rs1 imm)

/-- ORI (R195). -/
def execOri (rd rs1 : RegIx) (imm : BitVec 12) (s : State) : Result :=
  .next (s.aluImm 4 orOp rd rs1 imm)

/-- ANDI (R196). -/
def execAndi (rd rs1 : RegIx) (imm : BitVec 12) (s : State) : Result :=
  .next (s.aluImm 4 andOp rd rs1 imm)

/-- SLLI (R197). -/
def execSlli (rd rs1 : RegIx) (shamt : BitVec 6) (s : State) : Result :=
  .next (s.aluShift 4 sllOp rd rs1 shamt)

/-- SRLI (R198). -/
def execSrli (rd rs1 : RegIx) (shamt : BitVec 6) (s : State) : Result :=
  .next (s.aluShift 4 srlOp rd rs1 shamt)

/-- SRAI (R199). -/
def execSrai (rd rs1 : RegIx) (shamt : BitVec 6) (s : State) : Result :=
  .next (s.aluShift 4 sraOp rd rs1 shamt)

/-- LUI (R200). -/
def execLui (rd : RegIx) (imm : BitVec 20) (s : State) : Result :=
  .next (s.loadUpper 4 rd imm)

/-- AUIPC (R201). -/
def execAuipc (rd : RegIx) (imm : BitVec 20) (s : State) : Result :=
  .next (s.retX 4 rd (xadd s.cfg.xlen s.pc (upperValue s.cfg.xlen imm)))

end Sys2Proof.Machine
end

