-- ==== Sys2Proof/Machine/Atomic.lean ====
section
/-! DEFINITION. Atomic memory operations (46_atomic). -/

namespace Sys2Proof.Machine

/-- Load-reserved (46_atomic R311, R313): the value sign-extended into x[rd], the reservation set. -/
def State.loadReserved (s : State) (n : Nat) (rd rs1 : RegIx) : State :=
  match s.memRead (s.getX rs1) n with
  | some v =>
    State.retX { s with resvAddr := s.getX rs1, resvValid := true } 4 rd (xsext s.cfg.xlen v)
  | none => s.trap .loadAccess

/-- Store-conditional (R312, R314): the reservation ends whatever happens, except in a trap. -/
def State.storeConditional (s : State) (n : Nat) (rd rs1 rs2 : RegIx) : State :=
  if s.resvValid && s.resvAddr == s.getX rs1 then
    match s.memWrite (s.getX rs1) n (s.getX rs2) with
    | some t => State.retX { t with resvValid := false } 4 rd 0
    | none => s.trap .storeAccess
  else State.retX { s with resvValid := false } 4 rd 1

/-- A read-modify-write of `n` bytes (R310): its read is checked as a store access. -/
def State.amo (s : State) (n : Nat) (op : BitVec (8 * n) → BitVec (8 * n) → BitVec (8 * n))
    (rd rs1 rs2 : RegIx) : State :=
  match s.memRead (s.getX rs1) n with
  | some old =>
    match s.memWrite (s.getX rs1) n (op old ((s.getX rs2).setWidth (8 * n))) with
    | some t => t.retX 4 rd (xsext s.cfg.xlen old)
    | none => s.trap .storeAccess
  | none => s.trap .storeAccess

def amoSwap {w : Nat} (_old b : BitVec w) : BitVec w := b
def amoMin {w : Nat} (old b : BitVec w) : BitVec w := if old.slt b then old else b
def amoMax {w : Nat} (old b : BitVec w) : BitVec w := if old.slt b then b else old
def amoMinu {w : Nat} (old b : BitVec w) : BitVec w := if old.ult b then old else b
def amoMaxu {w : Nat} (old b : BitVec w) : BitVec w := if old.ult b then b else old

/-! ## Meanings: aq and rl are ignored, and rs2 by LR (R310, R311) -/

/-- LR.W (R311). -/
def execLrW (rd rs1 _rs2 : RegIx) (_aq _rl : BitVec 1) (s : State) : Result :=
  .next (s.loadReserved 4 rd rs1)

/-- SC.W (R312). -/
def execScW (rd rs1 rs2 : RegIx) (_aq _rl : BitVec 1) (s : State) : Result :=
  .next (s.storeConditional 4 rd rs1 rs2)

/-- AMOSWAP.W (R315). -/
def execAmoswapW (rd rs1 rs2 : RegIx) (_aq _rl : BitVec 1) (s : State) : Result :=
  .next (s.amo 4 amoSwap rd rs1 rs2)

/-- AMOADD.W (R316). -/
def execAmoaddW (rd rs1 rs2 : RegIx) (_aq _rl : BitVec 1) (s : State) : Result :=
  .next (s.amo 4 addOp rd rs1 rs2)

/-- AMOXOR.W (R317). -/
def execAmoxorW (rd rs1 rs2 : RegIx) (_aq _rl : BitVec 1) (s : State) : Result :=
  .next (s.amo 4 xorOp rd rs1 rs2)

/-- AMOAND.W (R318). -/
def execAmoandW (rd rs1 rs2 : RegIx) (_aq _rl : BitVec 1) (s : State) : Result :=
  .next (s.amo 4 andOp rd rs1 rs2)

/-- AMOOR.W (R319). -/
def execAmoorW (rd rs1 rs2 : RegIx) (_aq _rl : BitVec 1) (s : State) : Result :=
  .next (s.amo 4 orOp rd rs1 rs2)

/-- AMOMIN.W (R320). -/
def execAmominW (rd rs1 rs2 : RegIx) (_aq _rl : BitVec 1) (s : State) : Result :=
  .next (s.amo 4 amoMin rd rs1 rs2)

/-- AMOMAX.W (R321). -/
def execAmomaxW (rd rs1 rs2 : RegIx) (_aq _rl : BitVec 1) (s : State) : Result :=
  .next (s.amo 4 amoMax rd rs1 rs2)

/-- AMOMINU.W (R322). -/
def execAmominuW (rd rs1 rs2 : RegIx) (_aq _rl : BitVec 1) (s : State) : Result :=
  .next (s.amo 4 amoMinu rd rs1 rs2)

/-- AMOMAXU.W (R323). -/
def execAmomaxuW (rd rs1 rs2 : RegIx) (_aq _rl : BitVec 1) (s : State) : Result :=
  .next (s.amo 4 amoMaxu rd rs1 rs2)

/-- LR.D (R313). -/
def execLrD (rd rs1 _rs2 : RegIx) (_aq _rl : BitVec 1) (s : State) : Result :=
  .next (onlyAt .rv64 4 s (s.loadReserved 8 rd rs1))

/-- SC.D (R314). -/
def execScD (rd rs1 rs2 : RegIx) (_aq _rl : BitVec 1) (s : State) : Result :=
  .next (onlyAt .rv64 4 s (s.storeConditional 8 rd rs1 rs2))

/-- AMOSWAP.D (R324). -/
def execAmoswapD (rd rs1 rs2 : RegIx) (_aq _rl : BitVec 1) (s : State) : Result :=
  .next (onlyAt .rv64 4 s (s.amo 8 amoSwap rd rs1 rs2))

/-- AMOADD.D (R325). -/
def execAmoaddD (rd rs1 rs2 : RegIx) (_aq _rl : BitVec 1) (s : State) : Result :=
  .next (onlyAt .rv64 4 s (s.amo 8 addOp rd rs1 rs2))

/-- AMOXOR.D (R326). -/
def execAmoxorD (rd rs1 rs2 : RegIx) (_aq _rl : BitVec 1) (s : State) : Result :=
  .next (onlyAt .rv64 4 s (s.amo 8 xorOp rd rs1 rs2))

/-- AMOAND.D (R327). -/
def execAmoandD (rd rs1 rs2 : RegIx) (_aq _rl : BitVec 1) (s : State) : Result :=
  .next (onlyAt .rv64 4 s (s.amo 8 andOp rd rs1 rs2))

/-- AMOOR.D (R328). -/
def execAmoorD (rd rs1 rs2 : RegIx) (_aq _rl : BitVec 1) (s : State) : Result :=
  .next (onlyAt .rv64 4 s (s.amo 8 orOp rd rs1 rs2))

/-- AMOMIN.D (R329). -/
def execAmominD (rd rs1 rs2 : RegIx) (_aq _rl : BitVec 1) (s : State) : Result :=
  .next (onlyAt .rv64 4 s (s.amo 8 amoMin rd rs1 rs2))

/-- AMOMAX.D (R330). -/
def execAmomaxD (rd rs1 rs2 : RegIx) (_aq _rl : BitVec 1) (s : State) : Result :=
  .next (onlyAt .rv64 4 s (s.amo 8 amoMax rd rs1 rs2))

/-- AMOMINU.D (R331). -/
def execAmominuD (rd rs1 rs2 : RegIx) (_aq _rl : BitVec 1) (s : State) : Result :=
  .next (onlyAt .rv64 4 s (s.amo 8 amoMinu rd rs1 rs2))

/-- AMOMAXU.D (R332). -/
def execAmomaxuD (rd rs1 rs2 : RegIx) (_aq _rl : BitVec 1) (s : State) : Result :=
  .next (onlyAt .rv64 4 s (s.amo 8 amoMaxu rd rs1 rs2))

end Sys2Proof.Machine
end

