-- ==== Sys2Proof/Machine/Control.lean ====
section
/-! DEFINITION. Branches and jumps (44_control). -/

namespace Sys2Proof.Machine

/-- A conditional branch (44_control R260): taken to pc + offset, else the default advance. -/
def State.branch (s : State) (len : Nat) (taken : Bool) (off : BitVec 12) : State :=
  if taken then s.setPc (xadd s.cfg.xlen s.pc (branchOffset s.cfg.xlen off)) else s.advance len

/-- The comparison of a branch. -/
def State.cmp (s : State) (f : {w : Nat} → BitVec w → BitVec w → Bool) (rs1 rs2 : RegIx) : Bool :=
  xrel s.cfg.xlen f (s.getX rs1) (s.getX rs2)

/-- JAL (R275): the link is pc + ilen (R270). -/
def State.jal (s : State) (len : Nat) (rd : RegIx) (off : BitVec 20) : State :=
  (s.setX rd (s.nextPc len)).setPc (xadd s.cfg.xlen s.pc (jumpOffset s.cfg.xlen off))

/-- JALR (R276): x[rs1] is read before the link is written; bit 0 of the target is cleared. -/
def State.jalr (s : State) (len : Nat) (rd rs1 : RegIx) (imm : BitVec 12) : State :=
  (s.setX rd (s.nextPc len)).setPc
    (clearBit0 (xadd s.cfg.xlen (s.getX rs1) (immValue s.cfg.xlen imm)))

/-! ## Meanings -/

/-- BEQ (R261). -/
def execBeq (rs1 rs2 : RegIx) (off : BitVec 12) (s : State) : Result :=
  .next (s.branch 4 (s.cmp eqOp rs1 rs2) off)

/-- BNE (R262). -/
def execBne (rs1 rs2 : RegIx) (off : BitVec 12) (s : State) : Result :=
  .next (s.branch 4 (!s.cmp eqOp rs1 rs2) off)

/-- BLT (R263). -/
def execBlt (rs1 rs2 : RegIx) (off : BitVec 12) (s : State) : Result :=
  .next (s.branch 4 (s.cmp ltsOp rs1 rs2) off)

/-- BGE (R264). -/
def execBge (rs1 rs2 : RegIx) (off : BitVec 12) (s : State) : Result :=
  .next (s.branch 4 (!s.cmp ltsOp rs1 rs2) off)

/-- BLTU (R265). -/
def execBltu (rs1 rs2 : RegIx) (off : BitVec 12) (s : State) : Result :=
  .next (s.branch 4 (s.cmp ltuOp rs1 rs2) off)

/-- BGEU (R266). -/
def execBgeu (rs1 rs2 : RegIx) (off : BitVec 12) (s : State) : Result :=
  .next (s.branch 4 (!s.cmp ltuOp rs1 rs2) off)

/-- JAL (R275). -/
def execJal (rd : RegIx) (off : BitVec 20) (s : State) : Result :=
  .next (s.jal 4 rd off)

/-- JALR (R276). -/
def execJalr (rd rs1 : RegIx) (imm : BitVec 12) (s : State) : Result :=
  .next (s.jalr 4 rd rs1 imm)

end Sys2Proof.Machine
end

