-- ==== Sys2Proof/Machine/LoadStore.lean ====
section
/-! DEFINITION. Integer loads and stores (43_load_store), and the loads and stores of the two FP banks (47_float_single, 48_float_double). -/

namespace Sys2Proof.Machine

/-- The effective address x[rs1] + imm modulo 2^XLEN (43_load_store R240, 20_memory R51). -/
def State.ea (s : State) (rs1 : RegIx) (imm : BitVec 12) : Word :=
  xadd s.cfg.xlen (s.getX rs1) (immValue s.cfg.xlen imm)

/-- A load of `n` bytes into x[rd], extended by `ext`; out of range under OOB_POLICY = trap it raises
cause 5 and writes nothing (R240). -/
def State.loadX (s : State) (len n : Nat) (ext : XLen → BitVec (8 * n) → Word) (rd rs1 : RegIx)
    (imm : BitVec 12) : State :=
  match s.memRead (s.ea rs1 imm) n with
  | some v => s.retX len rd (ext s.cfg.xlen v)
  | none => s.trap .loadAccess

/-- A store of the low `n` bytes of `v`; out of range under OOB_POLICY = trap it raises cause 7 and
writes nothing (R240). -/
def State.storeVal {w : Nat} (s : State) (len n : Nat) (v : BitVec w) (rs1 : RegIx)
    (imm : BitVec 12) : State :=
  match s.memWrite (s.ea rs1 imm) n v with
  | some t => t.advance len
  | none => s.trap .storeAccess

/-- A store of x[rs2]. -/
def State.storeX (s : State) (len n : Nat) (rs1 rs2 : RegIx) (imm : BitVec 12) : State :=
  s.storeVal len n (s.getX rs2) rs1 imm

/-- FLW: the pattern into FS[rd] unchanged (47_float_single R380). -/
def State.loadS (s : State) (len : Nat) (rd rs1 : RegIx) (imm : BitVec 12) : State :=
  match s.memRead (s.ea rs1 imm) 4 with
  | some v => (s.setS rd v).advance len
  | none => s.trap .loadAccess

/-- FLD: the pattern into FD[rd] unchanged (48_float_double R420). -/
def State.loadD (s : State) (len : Nat) (rd rs1 : RegIx) (imm : BitVec 12) : State :=
  match s.memRead (s.ea rs1 imm) 8 with
  | some v => (s.setD rd v).advance len
  | none => s.trap .loadAccess

/-! ## Meanings -/

/-- LB (R241). -/
def execLb (rd rs1 : RegIx) (imm : BitVec 12) (s : State) : Result :=
  .next (s.loadX 4 1 xsext rd rs1 imm)

/-- LH (R242). -/
def execLh (rd rs1 : RegIx) (imm : BitVec 12) (s : State) : Result :=
  .next (s.loadX 4 2 xsext rd rs1 imm)

/-- LW (R243). -/
def execLw (rd rs1 : RegIx) (imm : BitVec 12) (s : State) : Result :=
  .next (s.loadX 4 4 xsext rd rs1 imm)

/-- LD (R244). -/
def execLd (rd rs1 : RegIx) (imm : BitVec 12) (s : State) : Result :=
  .next (onlyAt .rv64 4 s (s.loadX 4 8 xzext rd rs1 imm))

/-- LBU (R245). -/
def execLbu (rd rs1 : RegIx) (imm : BitVec 12) (s : State) : Result :=
  .next (s.loadX 4 1 xzext rd rs1 imm)

/-- LHU (R246). -/
def execLhu (rd rs1 : RegIx) (imm : BitVec 12) (s : State) : Result :=
  .next (s.loadX 4 2 xzext rd rs1 imm)

/-- LWU (R247). -/
def execLwu (rd rs1 : RegIx) (imm : BitVec 12) (s : State) : Result :=
  .next (onlyAt .rv64 4 s (s.loadX 4 4 xzext rd rs1 imm))

/-- SB (R248). -/
def execSb (rs1 rs2 : RegIx) (imm : BitVec 12) (s : State) : Result :=
  .next (s.storeX 4 1 rs1 rs2 imm)

/-- SH (R249). -/
def execSh (rs1 rs2 : RegIx) (imm : BitVec 12) (s : State) : Result :=
  .next (s.storeX 4 2 rs1 rs2 imm)

/-- SW (R250). -/
def execSw (rs1 rs2 : RegIx) (imm : BitVec 12) (s : State) : Result :=
  .next (s.storeX 4 4 rs1 rs2 imm)

/-- SD (R251). -/
def execSd (rs1 rs2 : RegIx) (imm : BitVec 12) (s : State) : Result :=
  .next (onlyAt .rv64 4 s (s.storeX 4 8 rs1 rs2 imm))

/-- FLW (R380). -/
def execFlw (rd rs1 : RegIx) (imm : BitVec 12) (s : State) : Result :=
  .next (s.loadS 4 rd rs1 imm)

/-- FLD (R420). -/
def execFld (rd rs1 : RegIx) (imm : BitVec 12) (s : State) : Result :=
  .next (s.loadD 4 rd rs1 imm)

/-- FSW (R381). -/
def execFsw (rs1 rs2 : RegIx) (imm : BitVec 12) (s : State) : Result :=
  .next (s.storeVal 4 4 (s.getS rs2) rs1 imm)

/-- FSD (R421). -/
def execFsd (rs1 rs2 : RegIx) (imm : BitVec 12) (s : State) : Result :=
  .next (s.storeVal 4 8 (s.getD rs2) rs1 imm)

end Sys2Proof.Machine
end

