-- ==== Sys2Proof/Machine/MulDiv.lean ====
section
/-! DEFINITION. Multiply and divide, XLEN-wide (42_muldiv). -/

namespace Sys2Proof.Machine

/-! ## Operations at any width: products and quotients on exact integers (42_muldiv R220) -/

/-- The low half of the product (R221). -/
def mulOp {w : Nat} (a b : BitVec w) : BitVec w := a * b

/-- The upper half of the signed product (R222). -/
def mulhOp {w : Nat} (a b : BitVec w) : BitVec w := BitVec.ofInt w (a.toInt * b.toInt / 2 ^ w)

/-- The upper half of the signed by unsigned product (R223). -/
def mulhsuOp {w : Nat} (a b : BitVec w) : BitVec w :=
  BitVec.ofInt w (a.toInt * (b.toNat : Int) / 2 ^ w)

/-- The upper half of the unsigned product (R224). -/
def mulhuOp {w : Nat} (a b : BitVec w) : BitVec w := BitVec.ofNat w (a.toNat * b.toNat / 2 ^ w)

/-- DIV (R225): by zero all ones; XMIN by -1 the dividend; else rounded toward zero. -/
def divOp {w : Nat} (a b : BitVec w) : BitVec w :=
  if b = 0 then BitVec.allOnes w
  else if a = BitVec.intMin w ∧ b.toInt = -1 then a
  else BitVec.ofInt w (a.toInt.tdiv b.toInt)

/-- DIVU (R226). -/
def divuOp {w : Nat} (a b : BitVec w) : BitVec w :=
  if b = 0 then BitVec.allOnes w else BitVec.ofNat w (a.toNat / b.toNat)

/-- REM (R227): by zero the dividend; XMIN by -1 zero; else with the sign of the dividend. -/
def remOp {w : Nat} (a b : BitVec w) : BitVec w :=
  if b = 0 then a
  else if a = BitVec.intMin w ∧ b.toInt = -1 then 0
  else BitVec.ofInt w (a.toInt.tmod b.toInt)

/-- REMU (R228). -/
def remuOp {w : Nat} (a b : BitVec w) : BitVec w :=
  if b = 0 then a else BitVec.ofNat w (a.toNat % b.toNat)

/-! ## Meanings -/

/-- MUL (R221). -/
def execMul (rd rs1 rs2 : RegIx) (s : State) : Result :=
  .next (s.aluReg 4 mulOp rd rs1 rs2)

/-- MULH (R222). -/
def execMulh (rd rs1 rs2 : RegIx) (s : State) : Result :=
  .next (s.aluReg 4 mulhOp rd rs1 rs2)

/-- MULHSU (R223). -/
def execMulhsu (rd rs1 rs2 : RegIx) (s : State) : Result :=
  .next (s.aluReg 4 mulhsuOp rd rs1 rs2)

/-- MULHU (R224). -/
def execMulhu (rd rs1 rs2 : RegIx) (s : State) : Result :=
  .next (s.aluReg 4 mulhuOp rd rs1 rs2)

/-- DIV (R225). -/
def execDiv (rd rs1 rs2 : RegIx) (s : State) : Result :=
  .next (s.aluReg 4 divOp rd rs1 rs2)

/-- DIVU (R226). -/
def execDivu (rd rs1 rs2 : RegIx) (s : State) : Result :=
  .next (s.aluReg 4 divuOp rd rs1 rs2)

/-- REM (R227). -/
def execRem (rd rs1 rs2 : RegIx) (s : State) : Result :=
  .next (s.aluReg 4 remOp rd rs1 rs2)

/-- REMU (R228). -/
def execRemu (rd rs1 rs2 : RegIx) (s : State) : Result :=
  .next (s.aluReg 4 remuOp rd rs1 rs2)

end Sys2Proof.Machine
end

