-- ==== Sys2Proof/Machine/WordOps.lean ====
section
/-! DEFINITION. RV64 32-bit word operations (49_word_ops). -/

namespace Sys2Proof.Machine

/-- A 32-bit operation on the low words, its result sign-extended (49_word_ops R460). -/
def wbin (f : {w : Nat} → BitVec w → BitVec w → BitVec w) (a b : Word) : Word :=
  (f (a.setWidth 32) (b.setWidth 32)).signExtend 64

/-- A register-register word operation. -/
def State.wordReg (s : State) (len : Nat) (f : {w : Nat} → BitVec w → BitVec w → BitVec w)
    (rd rs1 rs2 : RegIx) : State :=
  s.retX len rd (wbin f (s.getX rs1) (s.getX rs2))

/-- A word shift by an immediate. -/
def State.wordShift (s : State) (len : Nat) (f : {w : Nat} → BitVec w → BitVec w → BitVec w)
    (rd rs1 : RegIx) (shamt : BitVec 5) : State :=
  s.retX len rd (wbin f (s.getX rs1) (shamt.setWidth 64))

/-- ADDIW (R461). -/
def State.addImmWord (s : State) (len : Nat) (rd rs1 : RegIx) (imm : BitVec 12) : State :=
  s.retX len rd (wbin addOp (s.getX rs1) (imm.signExtend 64))

/-! ## Meanings: at XLEN 32 each is kind Unknown (R460) -/

/-- ADDIW (R461). -/
def execAddiw (rd rs1 : RegIx) (imm : BitVec 12) (s : State) : Result :=
  .next (onlyAt .rv64 4 s (s.addImmWord 4 rd rs1 imm))

/-- SLLIW (R462). -/
def execSlliw (rd rs1 : RegIx) (shamt : BitVec 5) (s : State) : Result :=
  .next (onlyAt .rv64 4 s (s.wordShift 4 sllOp rd rs1 shamt))

/-- SRLIW (R463). -/
def execSrliw (rd rs1 : RegIx) (shamt : BitVec 5) (s : State) : Result :=
  .next (onlyAt .rv64 4 s (s.wordShift 4 srlOp rd rs1 shamt))

/-- SRAIW (R464). -/
def execSraiw (rd rs1 : RegIx) (shamt : BitVec 5) (s : State) : Result :=
  .next (onlyAt .rv64 4 s (s.wordShift 4 sraOp rd rs1 shamt))

/-- ADDW (R465). -/
def execAddw (rd rs1 rs2 : RegIx) (s : State) : Result :=
  .next (onlyAt .rv64 4 s (s.wordReg 4 addOp rd rs1 rs2))

/-- SUBW (R466). -/
def execSubw (rd rs1 rs2 : RegIx) (s : State) : Result :=
  .next (onlyAt .rv64 4 s (s.wordReg 4 subOp rd rs1 rs2))

/-- SLLW (R467). -/
def execSllw (rd rs1 rs2 : RegIx) (s : State) : Result :=
  .next (onlyAt .rv64 4 s (s.wordReg 4 sllOp rd rs1 rs2))

/-- SRLW (R468). -/
def execSrlw (rd rs1 rs2 : RegIx) (s : State) : Result :=
  .next (onlyAt .rv64 4 s (s.wordReg 4 srlOp rd rs1 rs2))

/-- SRAW (R469). -/
def execSraw (rd rs1 rs2 : RegIx) (s : State) : Result :=
  .next (onlyAt .rv64 4 s (s.wordReg 4 sraOp rd rs1 rs2))

/-- MULW (R470). -/
def execMulw (rd rs1 rs2 : RegIx) (s : State) : Result :=
  .next (onlyAt .rv64 4 s (s.wordReg 4 mulOp rd rs1 rs2))

/-- DIVW (R471). -/
def execDivw (rd rs1 rs2 : RegIx) (s : State) : Result :=
  .next (onlyAt .rv64 4 s (s.wordReg 4 divOp rd rs1 rs2))

/-- DIVUW (R472). -/
def execDivuw (rd rs1 rs2 : RegIx) (s : State) : Result :=
  .next (onlyAt .rv64 4 s (s.wordReg 4 divuOp rd rs1 rs2))

/-- REMW (R473). -/
def execRemw (rd rs1 rs2 : RegIx) (s : State) : Result :=
  .next (onlyAt .rv64 4 s (s.wordReg 4 remOp rd rs1 rs2))

/-- REMUW (R474). -/
def execRemuw (rd rs1 rs2 : RegIx) (s : State) : Result :=
  .next (onlyAt .rv64 4 s (s.wordReg 4 remuOp rd rs1 rs2))

end Sys2Proof.Machine
end

