-- ==== Sys2Proof/Machine/Compressed.lean ====
section
/-! DEFINITION. The compressed instructions (40_compressed). -/

namespace Sys2Proof.Machine

/-! A compressed instruction has the meaning of its expansion with ilen 2 (40_compressed R166): each
meaning is the shared operation of its base kind at length 2, on the operands of its expansion. -/

/-- C.ADDI4SPN (R124). -/
def execCAddi4spn (rd : CRegIx) (imm : BitVec 8) (s : State) : Result :=
  .next (s.aluImm 2 addOp (creg rd) sp (immCiw imm))

/-- C.FLD (R125). -/
def execCFld (rd rs1 : CRegIx) (imm : BitVec 5) (s : State) : Result :=
  .next (s.loadD 2 (creg rd) (creg rs1) (immClD imm))

/-- C.LW (R126). -/
def execCLw (rd rs1 : CRegIx) (imm : BitVec 5) (s : State) : Result :=
  .next (s.loadX 2 4 xsext (creg rd) (creg rs1) (immClW imm))

/-- C.FLW (R127). -/
def execCFlw (rd rs1 : CRegIx) (imm : BitVec 5) (s : State) : Result :=
  .next (onlyAt .rv32 2 s (s.loadS 2 (creg rd) (creg rs1) (immClW imm)))

/-- C.LD (R128). -/
def execCLd (rd rs1 : CRegIx) (imm : BitVec 5) (s : State) : Result :=
  .next (onlyAt .rv64 2 s (s.loadX 2 8 xzext (creg rd) (creg rs1) (immClD imm)))

/-- C.FSD (R129). -/
def execCFsd (rs1 rs2 : CRegIx) (imm : BitVec 5) (s : State) : Result :=
  .next (s.storeVal 2 8 (s.getD (creg rs2)) (creg rs1) (immClD imm))

/-- C.SW (R130). -/
def execCSw (rs1 rs2 : CRegIx) (imm : BitVec 5) (s : State) : Result :=
  .next (s.storeX 2 4 (creg rs1) (creg rs2) (immClW imm))

/-- C.FSW (R131). -/
def execCFsw (rs1 rs2 : CRegIx) (imm : BitVec 5) (s : State) : Result :=
  .next (onlyAt .rv32 2 s (s.storeVal 2 4 (s.getS (creg rs2)) (creg rs1) (immClW imm)))

/-- C.SD (R132). -/
def execCSd (rs1 rs2 : CRegIx) (imm : BitVec 5) (s : State) : Result :=
  .next (onlyAt .rv64 2 s (s.storeX 2 8 (creg rs1) (creg rs2) (immClD imm)))

/-- C.NOP (R133). -/
def execCNop (imm : BitVec 6) (s : State) : Result :=
  .next (s.aluImm 2 addOp 0#5 0#5 (immCi imm))

/-- C.ADDI (R134). -/
def execCAddi (rd : RegIx) (imm : BitVec 6) (s : State) : Result :=
  .next (s.aluImm 2 addOp rd rd (immCi imm))

/-- C.JAL (R135). -/
def execCJal (off : BitVec 11) (s : State) : Result :=
  .next (onlyAt .rv32 2 s (s.jal 2 ra (off.signExtend 20)))

/-- C.ADDIW (R136). -/
def execCAddiw (rd : RegIx) (imm : BitVec 6) (s : State) : Result :=
  .next (onlyAt .rv64 2 s (s.addImmWord 2 rd rd (immCi imm)))

/-- C.LI (R137). -/
def execCLi (rd : RegIx) (imm : BitVec 6) (s : State) : Result :=
  .next (s.aluImm 2 addOp rd 0#5 (immCi imm))

/-- C.ADDI16SP (R138). -/
def execCAddi16sp (imm : BitVec 6) (s : State) : Result :=
  .next (s.aluImm 2 addOp sp sp (immCi16 imm))

/-- C.LUI (R139). -/
def execCLui (rd : RegIx) (imm : BitVec 6) (s : State) : Result :=
  .next (s.loadUpper 2 rd (imm.signExtend 20))

/-- C.SRLI (R140). -/
def execCSrli (rd : CRegIx) (shamt : BitVec 6) (s : State) : Result :=
  .next (s.aluShift 2 srlOp (creg rd) (creg rd) shamt)

/-- C.SRAI (R141). -/
def execCSrai (rd : CRegIx) (shamt : BitVec 6) (s : State) : Result :=
  .next (s.aluShift 2 sraOp (creg rd) (creg rd) shamt)

/-- C.ANDI (R142). -/
def execCAndi (rd : CRegIx) (imm : BitVec 6) (s : State) : Result :=
  .next (s.aluImm 2 andOp (creg rd) (creg rd) (immCi imm))

/-- C.SUB (R143). -/
def execCSub (rd rs2 : CRegIx) (s : State) : Result :=
  .next (s.aluReg 2 subOp (creg rd) (creg rd) (creg rs2))

/-- C.XOR (R144). -/
def execCXor (rd rs2 : CRegIx) (s : State) : Result :=
  .next (s.aluReg 2 xorOp (creg rd) (creg rd) (creg rs2))

/-- C.OR (R145). -/
def execCOr (rd rs2 : CRegIx) (s : State) : Result :=
  .next (s.aluReg 2 orOp (creg rd) (creg rd) (creg rs2))

/-- C.AND (R146). -/
def execCAnd (rd rs2 : CRegIx) (s : State) : Result :=
  .next (s.aluReg 2 andOp (creg rd) (creg rd) (creg rs2))

/-- C.SUBW (R147). -/
def execCSubw (rd rs2 : CRegIx) (s : State) : Result :=
  .next (onlyAt .rv64 2 s (s.wordReg 2 subOp (creg rd) (creg rd) (creg rs2)))

/-- C.ADDW (R148). -/
def execCAddw (rd rs2 : CRegIx) (s : State) : Result :=
  .next (onlyAt .rv64 2 s (s.wordReg 2 addOp (creg rd) (creg rd) (creg rs2)))

/-- C.J (R149). -/
def execCJ (off : BitVec 11) (s : State) : Result :=
  .next (s.jal 2 0#5 (off.signExtend 20))

/-- C.BEQZ (R150). -/
def execCBeqz (rs1 : CRegIx) (off : BitVec 8) (s : State) : Result :=
  .next (s.branch 2 (s.cmp eqOp (creg rs1) 0#5) (off.signExtend 12))

/-- C.BNEZ (R151). -/
def execCBnez (rs1 : CRegIx) (off : BitVec 8) (s : State) : Result :=
  .next (s.branch 2 (!s.cmp eqOp (creg rs1) 0#5) (off.signExtend 12))

/-- C.SLLI (R152). -/
def execCSlli (rd : RegIx) (shamt : BitVec 6) (s : State) : Result :=
  .next (s.aluShift 2 sllOp rd rd shamt)

/-- C.FLDSP (R153). -/
def execCFldsp (rd : RegIx) (imm : BitVec 6) (s : State) : Result :=
  .next (s.loadD 2 rd sp (immSpD imm))

/-- C.LWSP (R154). -/
def execCLwsp (rd : RegIx) (imm : BitVec 6) (s : State) : Result :=
  .next (s.loadX 2 4 xsext rd sp (immSpW imm))

/-- C.FLWSP (R155). -/
def execCFlwsp (rd : RegIx) (imm : BitVec 6) (s : State) : Result :=
  .next (onlyAt .rv32 2 s (s.loadS 2 rd sp (immSpW imm)))

/-- C.LDSP (R156). -/
def execCLdsp (rd : RegIx) (imm : BitVec 6) (s : State) : Result :=
  .next (onlyAt .rv64 2 s (s.loadX 2 8 xzext rd sp (immSpD imm)))

/-- C.JR (R157). -/
def execCJr (rs1 : RegIx) (s : State) : Result :=
  .next (s.jalr 2 0#5 rs1 0#12)

/-- C.MV (R158). -/
def execCMv (rd rs2 : RegIx) (s : State) : Result :=
  .next (s.aluReg 2 addOp rd 0#5 rs2)

/-- C.EBREAK (R159). -/
def execCEbreak (s : State) : Result :=
  .next (s.trap .breakpoint)

/-- C.JALR (R160). -/
def execCJalr (rs1 : RegIx) (s : State) : Result :=
  .next (s.jalr 2 ra rs1 0#12)

/-- C.ADD (R161). -/
def execCAdd (rd rs2 : RegIx) (s : State) : Result :=
  .next (s.aluReg 2 addOp rd rd rs2)

/-- C.FSDSP (R162). -/
def execCFsdsp (rs2 : RegIx) (imm : BitVec 6) (s : State) : Result :=
  .next (s.storeVal 2 8 (s.getD rs2) sp (immSpD imm))

/-- C.SWSP (R163). -/
def execCSwsp (rs2 : RegIx) (imm : BitVec 6) (s : State) : Result :=
  .next (s.storeX 2 4 sp rs2 (immSpW imm))

/-- C.FSWSP (R164). -/
def execCFswsp (rs2 : RegIx) (imm : BitVec 6) (s : State) : Result :=
  .next (onlyAt .rv32 2 s (s.storeVal 2 4 (s.getS rs2) sp (immSpW imm)))

/-- C.SDSP (R165). -/
def execCSdsp (rs2 : RegIx) (imm : BitVec 6) (s : State) : Result :=
  .next (onlyAt .rv64 2 s (s.storeX 2 8 sp rs2 (immSpD imm)))

end Sys2Proof.Machine
end

