-- ==== Sys2Proof/Machine/Float.lean ====
section
/-! DEFINITION. The floating-point model of 47_float_single R340 to R354, written once for binary32 and binary64, on exact integers with one rounding at the end. -/

namespace Sys2Proof.Machine

/-- A format: the widths of its exponent and fraction fields (R341). -/
structure Fmt where
  expBits : Nat
  fracBits : Nat
  deriving DecidableEq, Repr

/-- binary32 (R341). -/
def f32 : Fmt := ⟨8, 23⟩

/-- binary64 (R341). -/
def f64 : Fmt := ⟨11, 52⟩

/-- The precision p (R341). -/
def fPrec (F : Fmt) : Nat := F.fracBits + 1

/-- The bias, which is also emax (R341). -/
def fBias (F : Fmt) : Nat := 2 ^ (F.expBits - 1) - 1

/-- emin - p + 1: the exponent of the last place of a subnormal (R341). -/
def fMinExp (F : Fmt) : Int := 2 - (fBias F : Int) - (fPrec F : Int)

/-! ## Fields and classes (R341) -/

/-- The place of the sign bit. -/
def fSignPos (F : Fmt) : Nat := F.expBits + F.fracBits

/-- The sign bit. -/
def fSign {n : Nat} (F : Fmt) (b : BitVec n) : Bool := b.getLsbD (fSignPos F)

/-- The biased exponent E. -/
def fExp {n : Nat} (F : Fmt) (b : BitVec n) : Nat := (b.extractLsb' F.fracBits F.expBits).toNat

/-- The fraction T. -/
def fFrac {n : Nat} (F : Fmt) (b : BitVec n) : Nat := (b.extractLsb' 0 F.fracBits).toNat

/-- E of an infinity or a NaN: all ones. -/
def fMaxExp (F : Fmt) : Nat := 2 ^ F.expBits - 1

def fIsNan {n : Nat} (F : Fmt) (b : BitVec n) : Bool := fExp F b == fMaxExp F && fFrac F b != 0
def fIsInf {n : Nat} (F : Fmt) (b : BitVec n) : Bool := fExp F b == fMaxExp F && fFrac F b == 0
def fIsZero {n : Nat} (F : Fmt) (b : BitVec n) : Bool := fExp F b == 0 && fFrac F b == 0
def fIsSubnormal {n : Nat} (F : Fmt) (b : BitVec n) : Bool := fExp F b == 0 && fFrac F b != 0

/-- The significand of val(b) as an integer: T, or 2^(p-1) + T for a normal. -/
def fSig {n : Nat} (F : Fmt) (b : BitVec n) : Nat :=
  if fExp F b = 0 then fFrac F b else 2 ^ F.fracBits + fFrac F b

/-- The exponent of val(b): |val(b)| = fSig * 2^fPow. -/
def fPow {n : Nat} (F : Fmt) (b : BitVec n) : Int := ((max (fExp F b) 1 : Nat) : Int) - 1 + fMinExp F

/-- The signed significand: val(b) = fInt * 2^fPow. -/
def fInt {n : Nat} (F : Fmt) (b : BitVec n) : Int :=
  if fSign F b then -(fSig F b : Int) else (fSig F b : Int)

/-! ## Patterns -/

/-- The pattern with a sign and a magnitude (the bits below the sign). -/
def fPack (n : Nat) (F : Fmt) (neg : Bool) (mag : Nat) : BitVec n :=
  BitVec.ofNat n ((if neg then 2 ^ fSignPos F else 0) + mag)

/-- The magnitude of an infinity. -/
def fInfMag (F : Fmt) : Nat := fMaxExp F * 2 ^ F.fracBits

def fZero (n : Nat) (F : Fmt) (neg : Bool) : BitVec n := fPack n F neg 0
def fInf (n : Nat) (F : Fmt) (neg : Bool) : BitVec n := fPack n F neg (fInfMag F)

/-- The largest finite value of a sign. -/
def fMaxFinite (n : Nat) (F : Fmt) (neg : Bool) : BitVec n := fPack n F neg (fInfMag F - 1)

/-- `b` with its sign bit replaced. -/
def fWithSign {n : Nat} (F : Fmt) (b : BitVec n) (neg : Bool) : BitVec n :=
  let m : BitVec n := BitVec.ofNat n (2 ^ fSignPos F)
  if neg then b ||| m else b &&& ~~~m

/-- `neg(b)`: the sign bit flipped, for every b, NaN included (R341). -/
def fNeg {n : Nat} (F : Fmt) (b : BitVec n) : BitVec n := fWithSign F b (!fSign F b)

/-! ## Rounding (R342, assumption log 9) -/

/-- The direction of a rounding. -/
inductive RMode where
  | rne
  | rtz
  | rdn
  | rup
  | rmm
  deriving DecidableEq, Repr

/-- The direction an rm field selects: DYN selects RNE, since frm is inert (R342). -/
def rmMode : Rm → RMode
  | .rne => .rne
  | .rtz => .rtz
  | .rdn => .rdn
  | .rup => .rup
  | .rmm => .rmm
  | .dyn => .rne

/-- The magnitude rounds up to the next integer, where it lies `r / d` above an integer that is odd
or not (r < d). -/
def roundsUp (m : RMode) (neg odd : Bool) (r d : Nat) : Bool :=
  match m with
  | .rne => decide (d < 2 * r) || (decide (2 * r = d) && odd)
  | .rtz => false
  | .rdn => neg && decide (r ≠ 0)
  | .rup => !neg && decide (r ≠ 0)
  | .rmm => decide (d ≤ 2 * r)

/-- The magnitude `num / den` rounded to an integer. -/
def roundQuot (m : RMode) (neg : Bool) (num den : Nat) : Nat :=
  if roundsUp m neg (num / den % 2 == 1) (num % den) den then num / den + 1 else num / den

/-- `num / den * 2^e` as a quotient of integers. -/
def scaleQuot (num den : Nat) (e : Int) : Nat × Nat :=
  match e with
  | .ofNat k => (num * 2 ^ k, den)
  | .negSucc k => (num, den * 2 ^ (k + 1))

/-- floor(log2(num / den)) for positive integers. -/
def floorLog2 (num den : Nat) : Int :=
  let d : Int := (num.log2 : Int) - (den.log2 : Int)
  let s := scaleQuot num den (-d)
  if s.2 ≤ s.1 then d else d - 1

/-- The result of a rounding whose magnitude exceeds the largest finite value (R342). -/
def fOverflow (n : Nat) (F : Fmt) (m : RMode) (neg : Bool) : BitVec n :=
  match m with
  | .rne => fInf n F neg
  | .rmm => fInf n F neg
  | .rtz => fMaxFinite n F neg
  | .rdn => if neg then fInf n F neg else fMaxFinite n F neg
  | .rup => if neg then fMaxFinite n F neg else fInf n F neg

/-- `round(rm, r)` for r = ± num / den * 2^e, num and den positive (R342). The last place of the
result has exponent `q`, never below that of a subnormal; the pattern's magnitude is then linear in
the rounded integer, a carry into the exponent included. -/
def fRound (n : Nat) (F : Fmt) (m : RMode) (neg : Bool) (num den : Nat) (e : Int) : BitVec n :=
  let q := max (e + floorLog2 num den - (F.fracBits : Int)) (fMinExp F)
  let s := scaleQuot num den (e - q)
  let mag := (q - fMinExp F).toNat * 2 ^ F.fracBits + roundQuot m neg s.1 s.2
  if fInfMag F ≤ mag then fOverflow n F m neg else fPack n F neg mag

/-- `round(rm, v * 2^e)` for a nonzero integer v. -/
def fRoundInt (n : Nat) (F : Fmt) (m : RMode) (v : Int) (e : Int) : BitVec n :=
  fRound n F m (decide (v < 0)) v.natAbs 1 e

/-- The zero of an exact cancellation: +0, or -0 under RDN (R344, R345). -/
def fCancelZero (n : Nat) (F : Fmt) (m : RMode) : BitVec n := fZero n F (m == .rdn)

/-- An integer times 2^(e - e0), for e0 ≤ e. -/
def alignInt (v : Int) (e e0 : Int) : Int := v * 2 ^ (e - e0).toNat

/-! ## The arithmetic primitives (R344 to R346): none is a NaN result (R343) -/

/-- `F.add` (R344). -/
def fAdd {n : Nat} (F : Fmt) (m : RMode) (a b : BitVec n) : Option (BitVec n) :=
  if fIsNan F a || fIsNan F b then none
  else if fIsInf F a then
    if fIsInf F b && fSign F a != fSign F b then none else some a
  else if fIsInf F b then some b
  else
    let e := min (fPow F a) (fPow F b)
    let r := alignInt (fInt F a) (fPow F a) e + alignInt (fInt F b) (fPow F b) e
    if r ≠ 0 then some (fRoundInt n F m r e)
    else if fIsZero F a && fIsZero F b && fSign F a == fSign F b then some a
    else some (fCancelZero n F m)

/-- `F.sub` (R344). -/
def fSub {n : Nat} (F : Fmt) (m : RMode) (a b : BitVec n) : Option (BitVec n) :=
  fAdd F m a (fNeg F b)

/-- `F.mul` (R344). -/
def fMul {n : Nat} (F : Fmt) (m : RMode) (a b : BitVec n) : Option (BitVec n) :=
  let s := fSign F a != fSign F b
  if fIsNan F a || fIsNan F b || (fIsZero F a && fIsInf F b) || (fIsInf F a && fIsZero F b) then none
  else if fIsInf F a || fIsInf F b then some (fInf n F s)
  else if fIsZero F a || fIsZero F b then some (fZero n F s)
  else some (fRound n F m s (fSig F a * fSig F b) 1 (fPow F a + fPow F b))

/-- `F.div` (R344). -/
def fDiv {n : Nat} (F : Fmt) (m : RMode) (a b : BitVec n) : Option (BitVec n) :=
  let s := fSign F a != fSign F b
  if fIsNan F a || fIsNan F b || (fIsZero F a && fIsZero F b) || (fIsInf F a && fIsInf F b) then none
  else if fIsInf F a || fIsZero F b then some (fInf n F s)
  else if fIsInf F b || fIsZero F a then some (fZero n F s)
  else some (fRound n F m s (fSig F a) (fSig F b) (fPow F a - fPow F b))

/-- `F.fma`: a * b + c with one rounding (R345). -/
def fFma {n : Nat} (F : Fmt) (m : RMode) (a b c : BitVec n) : Option (BitVec n) :=
  let s := fSign F a != fSign F b
  if fIsNan F a || fIsNan F b || fIsNan F c || (fIsZero F a && fIsInf F b) ||
      (fIsInf F a && fIsZero F b) then none
  else if fIsInf F a || fIsInf F b then
    if fIsInf F c && fSign F c != s then none else some (fInf n F s)
  else if fIsInf F c then some c
  else
    let ep := fPow F a + fPow F b
    let e := min ep (fPow F c)
    let p := fInt F a * fInt F b
    let r := alignInt p ep e + alignInt (fInt F c) (fPow F c) e
    if r ≠ 0 then some (fRoundInt n F m r e)
    else if p = 0 ∧ fIsZero F c = true ∧ s = fSign F c then some (fZero n F s)
    else some (fCancelZero n F m)

/-- The integer square root by its bits from `2^k` down, `r` being the part already found. -/
def isqrtFrom (v : Nat) : Nat → Nat → Nat
  | 0, r => r
  | k + 1, r =>
    if (r + 2 ^ k) * (r + 2 ^ k) ≤ v then isqrtFrom v k (r + 2 ^ k) else isqrtFrom v k r

/-- The integer square root: the largest r with r * r ≤ v. -/
def isqrt (v : Nat) : Nat := isqrtFrom v (v.log2 / 2 + 1) 0

/-- `round(rm, sqrt(sig * 2^e))` for a positive sig. The radicand is scaled to an even exponent and
to a root of more than p + 1 bits; a root that is not exact is given one more bit, set, which lies
strictly between the root and its successor as the true root does, so both round alike. -/
def fRoundSqrt (n : Nat) (F : Fmt) (m : RMode) (sig : Nat) (e : Int) : BitVec n :=
  let t : Nat := 2 * (fPrec F + 2) + (e % 2).toNat
  let v := sig * 2 ^ t
  let r := isqrt v
  fRound n F m false (2 * r + (if r * r = v then 0 else 1)) 1 ((e - (t : Int)) / 2 - 1)

/-- `F.sqrt` (R346). -/
def fSqrt {n : Nat} (F : Fmt) (m : RMode) (a : BitVec n) : Option (BitVec n) :=
  if fIsNan F a then none
  else if fIsZero F a then some a
  else if fSign F a then none
  else if fIsInf F a then some a
  else some (fRoundSqrt n F m (fSig F a) (fPow F a))

/-! ## Comparison, minimum and maximum (R347, R348)

The fields of an infinity, read as those of a number, give 2^(emax + 1), which lies beyond every
finite value: so the exact comparison below holds for infinities too. -/

/-- val(a) < val(b) for operands that are no NaN. -/
def fValLt {n : Nat} (F : Fmt) (a b : BitVec n) : Bool :=
  let e := min (fPow F a) (fPow F b)
  decide (alignInt (fInt F a) (fPow F a) e < alignInt (fInt F b) (fPow F b) e)

/-- val(a) = val(b) for operands that are no NaN. -/
def fValEq {n : Nat} (F : Fmt) (a b : BitVec n) : Bool :=
  let e := min (fPow F a) (fPow F b)
  decide (alignInt (fInt F a) (fPow F a) e = alignInt (fInt F b) (fPow F b) e)

/-- `F.eq` (R348). -/
def fEq {n : Nat} (F : Fmt) (a b : BitVec n) : Bool :=
  !fIsNan F a && !fIsNan F b && fValEq F a b

/-- `F.lt` (R348). -/
def fLt {n : Nat} (F : Fmt) (a b : BitVec n) : Bool :=
  !fIsNan F a && !fIsNan F b && fValLt F a b

/-- `F.le` (R348). -/
def fLe {n : Nat} (F : Fmt) (a b : BitVec n) : Bool :=
  !fIsNan F a && !fIsNan F b && (fValLt F a b || fValEq F a b)

/-- `F.min` (R347): the chosen operand's pattern, none where both are NaN. -/
def fMin {n : Nat} (F : Fmt) (a b : BitVec n) : Option (BitVec n) :=
  if fIsNan F a && fIsNan F b then none
  else if fIsNan F a then some b
  else if fIsNan F b then some a
  else if fIsZero F a && fIsZero F b && fSign F a != fSign F b then some (fZero n F true)
  else if fValLt F b a then some b
  else some a

/-- `F.max` (R347). -/
def fMax {n : Nat} (F : Fmt) (a b : BitVec n) : Option (BitVec n) :=
  if fIsNan F a && fIsNan F b then none
  else if fIsNan F a then some b
  else if fIsNan F b then some a
  else if fIsZero F a && fIsZero F b && fSign F a != fSign F b then some (fZero n F false)
  else if fValLt F a b then some b
  else some a

/-! ## Classification, sign injection and conversions -/

/-- The bit that `F.class` sets (R349). -/
def fClassBit {n : Nat} (F : Fmt) (a : BitVec n) : Nat :=
  if fIsNan F a then (if fSign F a then 8 else 9)
  else if fIsInf F a then (if fSign F a then 0 else 7)
  else if fIsZero F a then (if fSign F a then 3 else 4)
  else if fIsSubnormal F a then (if fSign F a then 2 else 5)
  else (if fSign F a then 1 else 6)

/-- `F.class` (R349). -/
def fClass {n : Nat} (F : Fmt) (a : BitVec n) : BitVec 10 := 1#10 <<< fClassBit F a

/-- FSGNJ (R391, R431). -/
def fSgnj {n : Nat} (F : Fmt) (a b : BitVec n) : BitVec n := fWithSign F a (fSign F b)

/-- FSGNJN (R392, R432). -/
def fSgnjn {n : Nat} (F : Fmt) (a b : BitVec n) : BitVec n := fWithSign F a (!fSign F b)

/-- FSGNJX (R393, R433). -/
def fSgnjx {n : Nat} (F : Fmt) (a b : BitVec n) : BitVec n := fWithSign F a (fSign F a != fSign F b)

/-- The least value of an N-bit integer (R350). -/
def intLo (N : Nat) (signed : Bool) : Int := if signed then -2 ^ (N - 1) else 0

/-- The greatest value of an N-bit integer (R350). -/
def intHi (N : Nat) (signed : Bool) : Int := if signed then 2 ^ (N - 1) - 1 else 2 ^ N - 1

/-- val(a) rounded to an integer, for a finite a (R350). -/
def fToIntExact {n : Nat} (F : Fmt) (m : RMode) (a : BitVec n) : Int :=
  let s := scaleQuot (fSig F a) 1 (fPow F a)
  let k := roundQuot m (fSign F a) s.1 s.2
  if fSign F a then -(k : Int) else (k : Int)

/-- `F.toInt`, saturating (R350). -/
def fToInt {n : Nat} (F : Fmt) (m : RMode) (a : BitVec n) (N : Nat) (signed : Bool) : BitVec N :=
  if fIsNan F a then BitVec.ofInt N (intHi N signed)
  else if fIsInf F a then BitVec.ofInt N (if fSign F a then intLo N signed else intHi N signed)
  else BitVec.ofInt N (max (intLo N signed) (min (intHi N signed) (fToIntExact F m a)))

/-- `F.fromInt` (R351). -/
def fFromInt (n : Nat) (F : Fmt) (m : RMode) (v : Int) : BitVec n :=
  if v = 0 then fZero n F false else fRoundInt n F m v 0

/-- A conversion from format F to format G (R352): `F32.fromF64`, and `F64.fromF32`, which is exact
under every direction. -/
def fConvert {k : Nat} (n : Nat) (F G : Fmt) (m : RMode) (a : BitVec k) : Option (BitVec n) :=
  if fIsNan F a then none
  else if fIsInf F a then some (fInf n G (fSign F a))
  else if fIsZero F a then some (fZero n G (fSign F a))
  else some (fRoundInt n G m (fInt F a) (fPow F a))

/-! ## NaN results (R343) -/

/-- The canonical NaN (R341). -/
def canonicalNan (n : Nat) (F : Fmt) : BitVec n :=
  fPack n F false (fInfMag F + 2 ^ (F.fracBits - 1))

/-- A pattern made a NaN: a NaN is left as it is, so every NaN is some value of this. -/
def asNan {n : Nat} (F : Fmt) (b : BitVec n) : BitVec n :=
  if fIsNan F b then b else canonicalNan n F

/-- The binary32 NaN that a NaN-producing operation returns: the canonical one, or under
FP_NAN = any a free one (R343, assumption log 7). -/
def State.nan32 (s : State) : BitVec 32 :=
  match s.cfg.fpNan with
  | .canonical => canonicalNan 32 f32
  | .any => asNan f32 (Config.freeBits32 s.free)

/-- The binary64 NaN, as `State.nan32`. -/
def State.nan64 (s : State) : BitVec 64 :=
  match s.cfg.fpNan with
  | .canonical => canonicalNan 64 f64
  | .any => asNan f64 (Config.freeBits64 s.free)

end Sys2Proof.Machine
end

