-- ==== Sys2Proof/Machine/FloatSingle.lean ====
section
/-! DEFINITION. Single-precision instructions (47_float_single). They read and write FS only (R340). -/

namespace Sys2Proof.Machine

/-- The integer operand of a conversion: the low N bits of a register, signed or unsigned (R351). -/
def intOperand (N : Nat) (signed : Bool) (v : Word) : Int :=
  if signed then (v.setWidth N).toInt else ((v.setWidth N).toNat : Int)

/-- FS[rd] takes a result, the NaN of R343 where it is one, and the default advance (R340). -/
def State.retS (s : State) (rd : RegIx) (r : Option (BitVec 32)) : State :=
  (s.setS rd (r.getD s.nan32)).advance 4

/-- A rounding operation of two operands. -/
def State.fp2S (s : State) (f : RMode → BitVec 32 → BitVec 32 → Option (BitVec 32))
    (rd rs1 rs2 : RegIx) (rm : Rm) : State :=
  s.retS rd (f (rmMode rm) (s.getS rs1) (s.getS rs2))

/-- A fused multiply-add, with the signs of product and addend as given (R345). -/
def State.fmaS (s : State) (negProduct negAddend : Bool) (rd rs1 rs2 rs3 : RegIx) (rm : Rm) :
    State :=
  let a := s.getS rs1
  let c := s.getS rs3
  s.retS rd (fFma f32 (rmMode rm) (if negProduct then fNeg f32 a else a) (s.getS rs2)
    (if negAddend then fNeg f32 c else c))

/-- An operation of two operands that does not round. -/
def State.pickS (s : State) (f : BitVec 32 → BitVec 32 → Option (BitVec 32)) (rd rs1 rs2 : RegIx) :
    State :=
  s.retS rd (f (s.getS rs1) (s.getS rs2))

/-- A comparison of two operands, its truth value into x[rd] (R348). -/
def State.fcmpS (s : State) (f : BitVec 32 → BitVec 32 → Bool) (rd rs1 rs2 : RegIx) : State :=
  s.retX 4 rd (boolWord (f (s.getS rs1) (s.getS rs2)))

/-- A conversion to an N-bit integer, sign-extended into x[rd] (R350, R396, R397). -/
def State.toIntS (s : State) (N : Nat) (signed : Bool) (rd rs1 : RegIx) (rm : Rm) : State :=
  s.retX 4 rd (xsext s.cfg.xlen (fToInt f32 (rmMode rm) (s.getS rs1) N signed))

/-- A conversion of the low N bits of x[rs1], read as an integer (R351). -/
def State.fromIntS (s : State) (N : Nat) (signed : Bool) (rd rs1 : RegIx) (rm : Rm) : State :=
  s.retS rd (some (fFromInt 32 f32 (rmMode rm) (intOperand N signed (s.getX rs1))))

/-! ## Meanings -/

/-- FMADD.S (R382). -/
def execFmaddS (rd rs1 rs2 rs3 : RegIx) (rm : Rm) (s : State) : Result :=
  .next (s.fmaS false false rd rs1 rs2 rs3 rm)

/-- FMSUB.S (R383). -/
def execFmsubS (rd rs1 rs2 rs3 : RegIx) (rm : Rm) (s : State) : Result :=
  .next (s.fmaS false true rd rs1 rs2 rs3 rm)

/-- FNMSUB.S (R384). -/
def execFnmsubS (rd rs1 rs2 rs3 : RegIx) (rm : Rm) (s : State) : Result :=
  .next (s.fmaS true false rd rs1 rs2 rs3 rm)

/-- FNMADD.S (R385). -/
def execFnmaddS (rd rs1 rs2 rs3 : RegIx) (rm : Rm) (s : State) : Result :=
  .next (s.fmaS true true rd rs1 rs2 rs3 rm)

/-- FADD.S (R386). -/
def execFaddS (rd rs1 rs2 : RegIx) (rm : Rm) (s : State) : Result :=
  .next (s.fp2S (fAdd f32) rd rs1 rs2 rm)

/-- FSUB.S (R387). -/
def execFsubS (rd rs1 rs2 : RegIx) (rm : Rm) (s : State) : Result :=
  .next (s.fp2S (fSub f32) rd rs1 rs2 rm)

/-- FMUL.S (R388). -/
def execFmulS (rd rs1 rs2 : RegIx) (rm : Rm) (s : State) : Result :=
  .next (s.fp2S (fMul f32) rd rs1 rs2 rm)

/-- FDIV.S (R389). -/
def execFdivS (rd rs1 rs2 : RegIx) (rm : Rm) (s : State) : Result :=
  .next (s.fp2S (fDiv f32) rd rs1 rs2 rm)

/-- FSQRT.S (R390). -/
def execFsqrtS (rd rs1 : RegIx) (rm : Rm) (s : State) : Result :=
  .next (s.retS rd (fSqrt f32 (rmMode rm) (s.getS rs1)))

/-- FSGNJ.S (R391). -/
def execFsgnjS (rd rs1 rs2 : RegIx) (s : State) : Result :=
  .next (s.pickS (fun a b => some (fSgnj f32 a b)) rd rs1 rs2)

/-- FSGNJN.S (R392). -/
def execFsgnjnS (rd rs1 rs2 : RegIx) (s : State) : Result :=
  .next (s.pickS (fun a b => some (fSgnjn f32 a b)) rd rs1 rs2)

/-- FSGNJX.S (R393). -/
def execFsgnjxS (rd rs1 rs2 : RegIx) (s : State) : Result :=
  .next (s.pickS (fun a b => some (fSgnjx f32 a b)) rd rs1 rs2)

/-- FMIN.S (R394). -/
def execFminS (rd rs1 rs2 : RegIx) (s : State) : Result :=
  .next (s.pickS (fMin f32) rd rs1 rs2)

/-- FMAX.S (R395). -/
def execFmaxS (rd rs1 rs2 : RegIx) (s : State) : Result :=
  .next (s.pickS (fMax f32) rd rs1 rs2)

/-- FEQ.S (R399). -/
def execFeqS (rd rs1 rs2 : RegIx) (s : State) : Result :=
  .next (s.fcmpS (fEq f32) rd rs1 rs2)

/-- FLT.S (R400). -/
def execFltS (rd rs1 rs2 : RegIx) (s : State) : Result :=
  .next (s.fcmpS (fLt f32) rd rs1 rs2)

/-- FLE.S (R401). -/
def execFleS (rd rs1 rs2 : RegIx) (s : State) : Result :=
  .next (s.fcmpS (fLe f32) rd rs1 rs2)

/-- FCLASS.S (R402). -/
def execFclassS (rd rs1 : RegIx) (s : State) : Result :=
  .next (s.retX 4 rd (xzext s.cfg.xlen (fClass f32 (s.getS rs1))))

/-- FCVT.W.S (R396). -/
def execFcvtWS (rd rs1 : RegIx) (rm : Rm) (s : State) : Result :=
  .next (s.toIntS 32 true rd rs1 rm)

/-- FCVT.WU.S (R397). -/
def execFcvtWuS (rd rs1 : RegIx) (rm : Rm) (s : State) : Result :=
  .next (s.toIntS 32 false rd rs1 rm)

/-- FCVT.L.S (R406). -/
def execFcvtLS (rd rs1 : RegIx) (rm : Rm) (s : State) : Result :=
  .next (onlyAt .rv64 4 s (s.toIntS 64 true rd rs1 rm))

/-- FCVT.LU.S (R407). -/
def execFcvtLuS (rd rs1 : RegIx) (rm : Rm) (s : State) : Result :=
  .next (onlyAt .rv64 4 s (s.toIntS 64 false rd rs1 rm))

/-- FCVT.S.W (R403). -/
def execFcvtSW (rd rs1 : RegIx) (rm : Rm) (s : State) : Result :=
  .next (s.fromIntS 32 true rd rs1 rm)

/-- FCVT.S.WU (R404). -/
def execFcvtSWu (rd rs1 : RegIx) (rm : Rm) (s : State) : Result :=
  .next (s.fromIntS 32 false rd rs1 rm)

/-- FCVT.S.L (R408). -/
def execFcvtSL (rd rs1 : RegIx) (rm : Rm) (s : State) : Result :=
  .next (onlyAt .rv64 4 s (s.fromIntS 64 true rd rs1 rm))

/-- FCVT.S.LU (R409). -/
def execFcvtSLu (rd rs1 : RegIx) (rm : Rm) (s : State) : Result :=
  .next (onlyAt .rv64 4 s (s.fromIntS 64 false rd rs1 rm))

/-- FMV.X.W (R398). -/
def execFmvXW (rd rs1 : RegIx) (s : State) : Result :=
  .next (s.retX 4 rd (xsext s.cfg.xlen (s.getS rs1)))

/-- FMV.W.X (R405). -/
def execFmvWX (rd rs1 : RegIx) (s : State) : Result :=
  .next (s.retS rd (some ((s.getX rs1).setWidth 32)))

end Sys2Proof.Machine
end

