-- ==== Sys2Proof/Machine/FloatDouble.lean ====
section
/-! DEFINITION. Double-precision instructions (48_float_double). They read and write FD; FCVT.S.D and FCVT.D.S move between the banks (47_float_single R340). -/

namespace Sys2Proof.Machine

/-- FD[rd] takes a result, the NaN of R343 where it is one, and the default advance (R340). -/
def State.retD (s : State) (rd : RegIx) (r : Option (BitVec 64)) : State :=
  (s.setD rd (r.getD s.nan64)).advance 4

/-- A rounding operation of two operands. -/
def State.fp2D (s : State) (f : RMode → BitVec 64 → BitVec 64 → Option (BitVec 64))
    (rd rs1 rs2 : RegIx) (rm : Rm) : State :=
  s.retD rd (f (rmMode rm) (s.getD rs1) (s.getD rs2))

/-- A fused multiply-add, with the signs of product and addend as given (R345). -/
def State.fmaD (s : State) (negProduct negAddend : Bool) (rd rs1 rs2 rs3 : RegIx) (rm : Rm) :
    State :=
  let a := s.getD rs1
  let c := s.getD rs3
  s.retD rd (fFma f64 (rmMode rm) (if negProduct then fNeg f64 a else a) (s.getD rs2)
    (if negAddend then fNeg f64 c else c))

/-- An operation of two operands that does not round. -/
def State.pickD (s : State) (f : BitVec 64 → BitVec 64 → Option (BitVec 64)) (rd rs1 rs2 : RegIx) :
    State :=
  s.retD rd (f (s.getD rs1) (s.getD rs2))

/-- A comparison of two operands, its truth value into x[rd] (R348). -/
def State.fcmpD (s : State) (f : BitVec 64 → BitVec 64 → Bool) (rd rs1 rs2 : RegIx) : State :=
  s.retX 4 rd (boolWord (f (s.getD rs1) (s.getD rs2)))

/-- A conversion to an N-bit integer, sign-extended into x[rd] (R350, R396, R397). -/
def State.toIntD (s : State) (N : Nat) (signed : Bool) (rd rs1 : RegIx) (rm : Rm) : State :=
  s.retX 4 rd (xsext s.cfg.xlen (fToInt f64 (rmMode rm) (s.getD rs1) N signed))

/-- A conversion of the low N bits of x[rs1], read as an integer (R351). -/
def State.fromIntD (s : State) (N : Nat) (signed : Bool) (rd rs1 : RegIx) (rm : Rm) : State :=
  s.retD rd (some (fFromInt 64 f64 (rmMode rm) (intOperand N signed (s.getX rs1))))

/-! ## Meanings -/

/-- FMADD.D (R422). -/
def execFmaddD (rd rs1 rs2 rs3 : RegIx) (rm : Rm) (s : State) : Result :=
  .next (s.fmaD false false rd rs1 rs2 rs3 rm)

/-- FMSUB.D (R423). -/
def execFmsubD (rd rs1 rs2 rs3 : RegIx) (rm : Rm) (s : State) : Result :=
  .next (s.fmaD false true rd rs1 rs2 rs3 rm)

/-- FNMSUB.D (R424). -/
def execFnmsubD (rd rs1 rs2 rs3 : RegIx) (rm : Rm) (s : State) : Result :=
  .next (s.fmaD true false rd rs1 rs2 rs3 rm)

/-- FNMADD.D (R425). -/
def execFnmaddD (rd rs1 rs2 rs3 : RegIx) (rm : Rm) (s : State) : Result :=
  .next (s.fmaD true true rd rs1 rs2 rs3 rm)

/-- FADD.D (R426). -/
def execFaddD (rd rs1 rs2 : RegIx) (rm : Rm) (s : State) : Result :=
  .next (s.fp2D (fAdd f64) rd rs1 rs2 rm)

/-- FSUB.D (R427). -/
def execFsubD (rd rs1 rs2 : RegIx) (rm : Rm) (s : State) : Result :=
  .next (s.fp2D (fSub f64) rd rs1 rs2 rm)

/-- FMUL.D (R428). -/
def execFmulD (rd rs1 rs2 : RegIx) (rm : Rm) (s : State) : Result :=
  .next (s.fp2D (fMul f64) rd rs1 rs2 rm)

/-- FDIV.D (R429). -/
def execFdivD (rd rs1 rs2 : RegIx) (rm : Rm) (s : State) : Result :=
  .next (s.fp2D (fDiv f64) rd rs1 rs2 rm)

/-- FSQRT.D (R430). -/
def execFsqrtD (rd rs1 : RegIx) (rm : Rm) (s : State) : Result :=
  .next (s.retD rd (fSqrt f64 (rmMode rm) (s.getD rs1)))

/-- FSGNJ.D (R431). -/
def execFsgnjD (rd rs1 rs2 : RegIx) (s : State) : Result :=
  .next (s.pickD (fun a b => some (fSgnj f64 a b)) rd rs1 rs2)

/-- FSGNJN.D (R432). -/
def execFsgnjnD (rd rs1 rs2 : RegIx) (s : State) : Result :=
  .next (s.pickD (fun a b => some (fSgnjn f64 a b)) rd rs1 rs2)

/-- FSGNJX.D (R433). -/
def execFsgnjxD (rd rs1 rs2 : RegIx) (s : State) : Result :=
  .next (s.pickD (fun a b => some (fSgnjx f64 a b)) rd rs1 rs2)

/-- FMIN.D (R434). -/
def execFminD (rd rs1 rs2 : RegIx) (s : State) : Result :=
  .next (s.pickD (fMin f64) rd rs1 rs2)

/-- FMAX.D (R435). -/
def execFmaxD (rd rs1 rs2 : RegIx) (s : State) : Result :=
  .next (s.pickD (fMax f64) rd rs1 rs2)

/-- FEQ.D (R438). -/
def execFeqD (rd rs1 rs2 : RegIx) (s : State) : Result :=
  .next (s.fcmpD (fEq f64) rd rs1 rs2)

/-- FLT.D (R439). -/
def execFltD (rd rs1 rs2 : RegIx) (s : State) : Result :=
  .next (s.fcmpD (fLt f64) rd rs1 rs2)

/-- FLE.D (R440). -/
def execFleD (rd rs1 rs2 : RegIx) (s : State) : Result :=
  .next (s.fcmpD (fLe f64) rd rs1 rs2)

/-- FCLASS.D (R441). -/
def execFclassD (rd rs1 : RegIx) (s : State) : Result :=
  .next (s.retX 4 rd (xzext s.cfg.xlen (fClass f64 (s.getD rs1))))

/-- FCVT.W.D (R442). -/
def execFcvtWD (rd rs1 : RegIx) (rm : Rm) (s : State) : Result :=
  .next (s.toIntD 32 true rd rs1 rm)

/-- FCVT.WU.D (R443). -/
def execFcvtWuD (rd rs1 : RegIx) (rm : Rm) (s : State) : Result :=
  .next (s.toIntD 32 false rd rs1 rm)

/-- FCVT.L.D (R446). -/
def execFcvtLD (rd rs1 : RegIx) (rm : Rm) (s : State) : Result :=
  .next (onlyAt .rv64 4 s (s.toIntD 64 true rd rs1 rm))

/-- FCVT.LU.D (R447). -/
def execFcvtLuD (rd rs1 : RegIx) (rm : Rm) (s : State) : Result :=
  .next (onlyAt .rv64 4 s (s.toIntD 64 false rd rs1 rm))

/-- FCVT.D.W (R444). -/
def execFcvtDW (rd rs1 : RegIx) (rm : Rm) (s : State) : Result :=
  .next (s.fromIntD 32 true rd rs1 rm)

/-- FCVT.D.WU (R445). -/
def execFcvtDWu (rd rs1 : RegIx) (rm : Rm) (s : State) : Result :=
  .next (s.fromIntD 32 false rd rs1 rm)

/-- FCVT.D.L (R449). -/
def execFcvtDL (rd rs1 : RegIx) (rm : Rm) (s : State) : Result :=
  .next (onlyAt .rv64 4 s (s.fromIntD 64 true rd rs1 rm))

/-- FCVT.D.LU (R450). -/
def execFcvtDLu (rd rs1 : RegIx) (rm : Rm) (s : State) : Result :=
  .next (onlyAt .rv64 4 s (s.fromIntD 64 false rd rs1 rm))

/-- FCVT.S.D (R436). -/
def execFcvtSD (rd rs1 : RegIx) (rm : Rm) (s : State) : Result :=
  .next (s.retS rd (fConvert 32 f64 f32 (rmMode rm) (s.getD rs1)))

/-- FCVT.D.S (R437). -/
def execFcvtDS (rd rs1 : RegIx) (rm : Rm) (s : State) : Result :=
  .next (s.retD rd (fConvert 64 f32 f64 (rmMode rm) (s.getS rs1)))

/-- FMV.X.D (R448). -/
def execFmvXD (rd rs1 : RegIx) (s : State) : Result :=
  .next (onlyAt .rv64 4 s (s.retX 4 rd (s.getD rs1)))

/-- FMV.D.X (R451). -/
def execFmvDX (rd rs1 : RegIx) (s : State) : Result :=
  .next (onlyAt .rv64 4 s (s.retD rd (some (s.getX rs1))))

end Sys2Proof.Machine
end

