-- ==== Sys2Proof/Machine/System.lean ====
section
/-! DEFINITION. System, CSR and fence instructions (45_system). pred, succ, fm and the unchecked rs1, rd and imm fields change nothing. -/

namespace Sys2Proof.Machine

/-- The common CSR operation (45_system R293): rd takes the old value, the CSR the new one; every
source is read before either is written. -/
def State.csrOp (s : State) (len : Nat) (new : CsrWord → CsrWord) (rd : RegIx) (csr : BitVec 12) :
    State :=
  ((s.setX rd (xzext s.cfg.xlen (s.getCsr csr))).setCsr csr (new (s.getCsr csr))).advance len

/-- The source of the register forms: the low 32 bits of x[rs1] (R293). -/
def State.csrSrc (s : State) (rs1 : RegIx) : CsrWord := (s.getX rs1).setWidth 32

/-! ## Meanings -/

/-- ECALL (R280). -/
def execEcall (_rs1 _rd : RegIx) (s : State) : Result :=
  .next (s.trap (.ecall s.priv))

/-- EBREAK (R281). -/
def execEbreak (_rs1 _rd : RegIx) (s : State) : Result :=
  .next (s.trap .breakpoint)

/-- URET (R282). -/
def execUret (_rs1 _rd : RegIx) (s : State) : Result :=
  .next (s.trap .illegal)

/-- MRET (R283). -/
def execMret (_rs1 _rd : RegIx) (s : State) : Result :=
  .next (s.mret)

/-- SRET (R284). -/
def execSret (_rs1 _rd : RegIx) (s : State) : Result :=
  .next (s.sret)

/-- WFI (R285). -/
def execWfi (_rs1 _rd : RegIx) (s : State) : Result :=
  .next (s.advance 4)

/-- SFENCE.VMA (R290). -/
def execSfenceVma (_rs1 _rs2 _rd : RegIx) (s : State) : Result :=
  .next (s.advance 4)

/-- FENCE (R291). -/
def execFence (_fm _pred _succ : BitVec 4) (_rs1 _rd : RegIx) (s : State) : Result :=
  .next (s.advance 4)

/-- FENCE (R291). -/
def execFenceSystem (_funct12 : BitVec 12) (_rs1 _rd : RegIx) (s : State) : Result :=
  .next (s.advance 4)

/-- FENCE.I (R292). -/
def execFenceI (_imm : BitVec 12) (_rs1 _rd : RegIx) (s : State) : Result :=
  .next (s.advance 4)

/-- CSRRW (R294). -/
def execCsrrw (rd : RegIx) (csr : BitVec 12) (rs1 : RegIx) (s : State) : Result :=
  .next (s.csrOp 4 (fun _ => s.csrSrc rs1) rd csr)

/-- CSRRS (R295). -/
def execCsrrs (rd : RegIx) (csr : BitVec 12) (rs1 : RegIx) (s : State) : Result :=
  .next (s.csrOp 4 (fun old => old ||| s.csrSrc rs1) rd csr)

/-- CSRRC (R296). -/
def execCsrrc (rd : RegIx) (csr : BitVec 12) (rs1 : RegIx) (s : State) : Result :=
  .next (s.csrOp 4 (fun old => old &&& ~~~(s.csrSrc rs1)) rd csr)

/-- CSRRWI (R297). -/
def execCsrrwi (rd : RegIx) (csr : BitVec 12) (zimm : BitVec 5) (s : State) : Result :=
  .next (s.csrOp 4 (fun _ => zimm.setWidth 32) rd csr)

/-- CSRRSI (R298). -/
def execCsrrsi (rd : RegIx) (csr : BitVec 12) (zimm : BitVec 5) (s : State) : Result :=
  .next (s.csrOp 4 (fun old => old ||| zimm.setWidth 32) rd csr)

/-- CSRRCI (R299). -/
def execCsrrci (rd : RegIx) (csr : BitVec 12) (zimm : BitVec 5) (s : State) : Result :=
  .next (s.csrOp 4 (fun old => old &&& ~~~(zimm.setWidth 32)) rd csr)

end Sys2Proof.Machine
end

