-- ==== Sys2Proof/Machine/Fetch.lean ====
section
/-! DEFINITION. Where the next raw word comes from, and when the run ends (20_memory R64 to R66, 70_reset_and_hazards R526). -/

namespace Sys2Proof.Machine

/-- The END_OF_RUN condition (70_reset_and_hazards R526, assumption logs 6 and 13). -/
def State.runEnded (s : State) : Bool :=
  match s.cfg.endOfRun with
  | .streamEnd => s.cfg.fetch == .stream && s.stream.isEmpty
  | .haltPc a => s.pc == xzext s.cfg.xlen a
  | .fuel n => decide (n ≤ s.steps)

/-- The address of the second half of a 32-bit instruction in memory (20_memory R65, assumption log
13). -/
def State.secondHalf (s : State) : Word := s.nextPc 2

/-- Fetch from memory: two halfword reads, each checked on its own, none for an access fault
(20_memory R65). -/
def State.fetchMem (s : State) : Option IWord :=
  match s.memRead s.pc 2 with
  | none => none
  | some lo =>
    if isCompressed (lo.setWidth 32) then some (lo.setWidth 32)
    else
      match s.memRead s.secondHalf 2 with
      | none => none
      | some hi => some (hi ++ lo)

/-- What the fetch of a step answers. -/
inductive Fetched where
  | word (raw : IWord) (t : State)
  | accessFault (t : State)
  | exhausted
  deriving DecidableEq, Repr

/-- One more step taken: the step count (R526) and the next free value (assumption log 7). -/
def State.tick (s : State) : State := { s with steps := s.steps + 1, free := s.free + 1 }

/-- The raw word of the next step, and the state in which it executes (20_memory R64). -/
def State.fetch (s : State) : Fetched :=
  match s.cfg.fetch with
  | .stream =>
    match s.stream with
    | [] => .exhausted
    | w :: rest => .word w { s.tick with stream := rest }
  | .memory =>
    match s.fetchMem with
    | some w => .word w s.tick
    | none => .accessFault s.tick

/-- `s` with a raw word where the next fetch finds it: the head of the stream, or the four bytes at
the pc, memory made large enough to hold them (assumption log 5). -/
def State.placeWord (s : State) (raw : IWord) : State :=
  match s.cfg.fetch with
  | .stream => { s with stream := raw :: s.stream }
  | .memory =>
    let a := s.pc.toNat
    let b := s.secondHalf.toNat
    { s with
      cfg := { s.cfg with memSize := max s.cfg.memSize (max (a + 2) (b + 2)) }
      mem := storeBytes (storeBytes s.mem a (raw.extractLsb' 0 16) 2) b (raw.extractLsb' 16 16) 2 }

/-- `s` with a run that goes on for one more step at least (assumption log 5). -/
def State.keepRunning (s : State) : State :=
  if s.runEnded then { s with cfg := { s.cfg with endOfRun := .fuel (s.steps + 1) } } else s

end Sys2Proof.Machine
end

