-- ==== Sys2Proof/Machine/Step.lean ====
section
/-! DEFINITION. One step of the run loop (30_encoding R70, 70_reset_and_hazards R526). -/

namespace Sys2Proof.Machine

/-- `Step(state, mem, raw_word)` (30_encoding R70): decode, then execute the instruction, or kind
Unknown (45_system R305). -/
def runWord (raw : IWord) (s : State) : Host.Outcome State Fault Refusal :=
  match decode s.cfg.xlen raw with
  | .ok i => exec i s
  | .error r => .next (opUnknown r.len s)

/-- One turn of the run loop (70_reset_and_hazards R526): the end of the run, the fetch, its access
fault (20_memory R65), or the word. -/
def step (s : State) : Host.Outcome State Fault Refusal :=
  if s.runEnded then .fault .endOfRun
  else
    match s.fetch with
    | .exhausted => .fault .streamExhausted
    | .accessFault t => .next (t.trap .instrAccess)
    | .word raw t => runWord raw t

/-- `s` with one instruction where the next step fetches it (assumption log 5). -/
def State.withFetchWord (s : State) (nbits w : Nat) : State :=
  (s.placeWord (tableRaw nbits w)).keepRunning

end Sys2Proof.Machine
end

