-- ==== Sys2Proof/Safety.lean ====
section
/-! DEFINITION. What holds of the state of a safe run: the shape of its data, an even pc, and a step that can be taken. -/

namespace Sys2Proof.Machine

/-- A value of XLEN bits in its 64-bit slot (10_state R20, R22, R33). -/
def fitsXlen (xl : XLen) (v : Word) : Prop := xzext xl v = v

/-- The addresses of the seven live CSRs (10_state R28). -/
def isLiveCsr (a : Nat) : Bool :=
  a == 0x100 || a == 0x141 || a == 0x142 || a == 0x300 || a == 0x305 || a == 0x341 || a == 0x342

/-- The shape of a state's data: every XLEN-bit register fits (10_state R20, R22, R33), x0 holds 0
(R20), memory and the inert CSRs are canonical and inside their address ranges (20_memory R61,
10_state R27), and a live CSR is stored once, in its own field. -/
structure State.Wf (s : State) : Prop where
  x : ∀ r : Fin 32, fitsXlen s.cfg.xlen (s.x[r])
  x0 : s.x[0] = 0
  pc : fitsXlen s.cfg.xlen s.pc
  resvAddr : fitsXlen s.cfg.xlen s.resvAddr
  mem : Memory.wf s.cfg.memSize s.mem = true
  csrs : csrsWf s.csrs = true
  live : ∀ p ∈ s.csrs, isLiveCsr p.1 = false

/-- The pc is even (10_state R24). -/
def State.PcEven (s : State) : Prop := s.pc.getLsbD 0 = false

/-- The addresses a trap or a trap return can jump to are even (10_state R24). -/
def State.VectorsEven (s : State) : Prop :=
  s.mtvec.getLsbD 0 = false ∧ s.mepc.getLsbD 0 = false ∧ s.sepc.getLsbD 0 = false

/-- A step can be taken: the run has not ended, and the stream, where words come from it, has a next
word (20_memory R64, 70_reset_and_hazards R526). -/
def State.CanStep (s : State) : Prop :=
  s.runEnded = false ∧ (s.cfg.fetch = .stream → s.stream ≠ [])

/-- Nothing but the pc differs. -/
def State.onlyPc (s t : State) : Prop := t = { s with pc := t.pc }

end Sys2Proof.Machine
end

