-- ==== Sys2Proof/Certificates/Slice0/Obligations.lean ====
section
/-! DEFINITION. The statements for the provers. The words they are written in come first, in the namespace `Sys2Proof.Claim`. -/

namespace Sys2Proof.Claim

open Sys2Proof.Machine

/-! ## Words the statements are written in -/

/-- XLEN, in bits. -/
abbrev Xlen (s : State) : Nat := s.cfg.xlen.bits

/-- The value of x[r], XLEN bits. -/
def xv (s : State) (r : RegIx) : BitVec (Xlen s) := (s.getX r).setWidth (Xlen s)

/-- The low 32 bits of x[r]. -/
def lo32 (s : State) (r : RegIx) : BitVec 32 := (s.getX r).setWidth 32

/-- The address of the executing instruction, XLEN bits. -/
def pcv (s : State) : BitVec (Xlen s) := s.pc.setWidth (Xlen s)

/-- pc + ilen modulo 2^XLEN. -/
def after (s : State) (ilen : Nat) : BitVec (Xlen s) := pcv s + BitVec.ofNat (Xlen s) ilen

/-- An XLEN-bit 1 or 0. -/
def bit (w : Nat) (p : Prop) [Decidable p] : BitVec w := if p then 1#w else 0#w

/-- Executing `i` in `s` completes: it answers a next state, of which `P` holds. -/
def Runs (i : Instr) (s : State) (P : State → Prop) : Prop := ∃ t, exec i s = .next t ∧ P t

/-- `t` is `s` with x[rd] <- v (discarded for x0) and pc <- next, and nothing else changed. -/
structure SetsX (s t : State) (rd : RegIx) (v next : BitVec (Xlen s)) : Prop where
  value : t.getX rd = if rd = 0 then 0 else v.setWidth 64
  others : ∀ r, r ≠ rd → t.getX r = s.getX r
  pc : t.pc = next.setWidth 64
  rest : t = { s with x := t.x, pc := t.pc }

/-- `t` is `s` with x[rd] <- v and the default advance, and nothing else changed. -/
def WritesX (s t : State) (ilen : Nat) (rd : RegIx) (v : BitVec (Xlen s)) : Prop :=
  SetsX s t rd v (after s ilen)

/-- `t` is `s` with FS[rd] <- v and the default advance, and nothing else changed. -/
structure WritesS (s t : State) (ilen : Nat) (rd : RegIx) (v : BitVec 32) : Prop where
  value : t.getS rd = v
  others : ∀ r, r ≠ rd → t.getS r = s.getS r
  pc : t.pc = (after s ilen).setWidth 64
  rest : t = { s with fs := t.fs, pc := t.pc }

/-- `t` is `s` with FD[rd] <- v and the default advance, and nothing else changed. -/
structure WritesD (s t : State) (ilen : Nat) (rd : RegIx) (v : BitVec 64) : Prop where
  value : t.getD rd = v
  others : ∀ r, r ≠ rd → t.getD r = s.getD r
  pc : t.pc = (after s ilen).setWidth 64
  rest : t = { s with fd := t.fd, pc := t.pc }

/-- `t` is `s` with pc <- next, and nothing else changed. -/
def Goes (s t : State) (next : BitVec (Xlen s)) : Prop := t = { s with pc := next.setWidth 64 }

/-! ### Memory -/

/-- The byte at address `a`. -/
def byteAt (s : State) (a : Nat) : Byte := sparseGet s.mem a

/-- An access of `n` bytes at `a` raises no trap: it is in range, or OOB_POLICY is zero. -/
def Allowed (s : State) (a n : Nat) : Prop := a + n ≤ s.cfg.memSize ∨ s.cfg.oobPolicy = .zero

/-- An access of `n` bytes at `a` is out of range, and OOB_POLICY is trap. -/
def Denied (s : State) (a n : Nat) : Prop := s.cfg.memSize < a + n ∧ s.cfg.oobPolicy = .trap

/-- What an allowed read of `n` bytes at `a` returns: the bytes, or 0 out of range. -/
def loaded (s : State) (a n : Nat) : BitVec (8 * n) :=
  if a + n ≤ s.cfg.memSize then loadBytes s.mem a n else 0

/-- The bytes of `t` are those of `s`, but for the low `n` bytes of `v` at `a` and up, little-endian;
an access out of range stores none. -/
def Stored {w : Nat} (s t : State) (a n : Nat) (v : BitVec w) : Prop :=
  ∀ k, byteAt t k =
    if a + n ≤ s.cfg.memSize ∧ a ≤ k ∧ k < a + n then v.extractLsb' (8 * (k - a)) 8 else byteAt s k

/-- The effective address x[rs1] + imm modulo 2^XLEN. -/
def ea (s : State) (rs1 : RegIx) (imm : BitVec 12) : Nat :=
  (xv s rs1 + imm.signExtend (Xlen s)).toNat

/-- `i` loads: x[rd] takes `v`, or the access at `a` traps with cause 5 and changes nothing else. -/
def LoadsX (i : Instr) (s : State) (a n : Nat) (rd : RegIx) (v : BitVec (Xlen s)) : Prop :=
  (Allowed s a n → Runs i s (WritesX s · 4 rd v)) ∧
  (Denied s a n → Runs i s (· = s.trap .loadAccess))

/-- `i` stores the low `n` bytes of `v` at `a`, or traps with cause 7 and changes nothing else. -/
def StoresAt {w : Nat} (i : Instr) (s : State) (a n : Nat) (v : BitVec w) : Prop :=
  (Allowed s a n → Runs i s fun t =>
    Stored s t a n v ∧ t = { s with mem := t.mem, pc := (after s 4).setWidth 64 }) ∧
  (Denied s a n → Runs i s (· = s.trap .storeAccess))

/-- `i` reads `old`, stores `new` in its place and returns `ret` in x[rd], or traps with cause 7. -/
def Updates {w : Nat} (i : Instr) (s : State) (a n : Nat) (rd : RegIx) (new : BitVec w)
    (ret : BitVec (Xlen s)) : Prop :=
  (Allowed s a n → Runs i s fun t =>
    Stored s t a n new ∧ SetsX { s with mem := t.mem } t rd ret (after s 4)) ∧
  (Denied s a n → Runs i s (· = s.trap .storeAccess))

/-! ### Floating point -/

/-- `v` is the binary32 result `r`; where `r` is none, a NaN as FP_NAN says (47_float_single R343). -/
def IsResult32 (s : State) (r : Option (BitVec 32)) (v : BitVec 32) : Prop :=
  match r, s.cfg.fpNan with
  | some u, _ => v = u
  | none, .canonical => v = 0x7FC00000#32
  | none, .any => fIsNan f32 v = true

/-- `v` is the binary64 result `r`; where `r` is none, a NaN as FP_NAN says (47_float_single R343). -/
def IsResult64 (s : State) (r : Option (BitVec 64)) (v : BitVec 64) : Prop :=
  match r, s.cfg.fpNan with
  | some u, _ => v = u
  | none, .canonical => v = 0x7FF8000000000000#64
  | none, .any => fIsNan f64 v = true

/-- `i` completes with the binary32 result `r` in FS[rd], and nothing else changed. -/
def ReturnsS (i : Instr) (s : State) (rd : RegIx) (r : Option (BitVec 32)) : Prop :=
  Runs i s fun t => ∃ v, IsResult32 s r v ∧ WritesS s t 4 rd v

/-- `i` completes with the binary64 result `r` in FD[rd], and nothing else changed. -/
def ReturnsD (i : Instr) (s : State) (rd : RegIx) (r : Option (BitVec 64)) : Prop :=
  Runs i s fun t => ∃ v, IsResult64 s r v ∧ WritesD s t 4 rd v

/-- A binary32 or binary64 format with the width of its patterns. -/
def IsFormat (n : Nat) (F : Fmt) : Prop := (n = 32 ∧ F = f32) ∨ (n = 64 ∧ F = f64)

/-- A finite pattern. -/
def Finite {n : Nat} (F : Fmt) (b : BitVec n) : Prop := fIsNan F b = false ∧ fIsInf F b = false

/-- emax, which is also the bias (47_float_single R341). -/
def emax (F : Fmt) : Int := 2 ^ (F.expBits - 1) - 1

/-- val(b) of a finite pattern, from its sign, biased exponent and fraction (47_float_single R341). -/
def val {n : Nat} (F : Fmt) (b : BitVec n) : ℚ :=
  (if fSign F b then -1 else 1) *
    if fExp F b = 0 then (fFrac F b : ℚ) * 2 ^ (1 - emax F - F.fracBits)
    else (2 ^ F.fracBits + fFrac F b : ℚ) * 2 ^ ((fExp F b : Int) - emax F - F.fracBits)

/-! ### CSRs, quotients and SC -/

/-- `t` is `s` after the common CSR operation: the new value in the CSR and no other CSR changed, the
old value zero-extended in x[rd], the default advance, and nothing else. -/
def WritesCsr (s t : State) (rd : RegIx) (csr : BitVec 12) (new : CsrWord) : Prop :=
  t.getCsr csr = new ∧ (∀ a, a ≠ csr → t.getCsr a = s.getCsr a) ∧
  t.getX rd = (if rd = 0 then 0 else (s.getCsr csr).setWidth 64) ∧
  (∀ r, r ≠ rd → t.getX r = s.getX r) ∧ t.pc = (after s 4).setWidth 64 ∧
  t = { s with
    x := t.x, pc := t.pc, mstatus := t.mstatus, mtvec := t.mtvec, mepc := t.mepc, mcause := t.mcause,
    sstatus := t.sstatus, sepc := t.sepc, scause := t.scause, csrs := t.csrs }

/-- Quotients and remainders at any width, as 42_muldiv R225 to R228 give them: by zero, at the signed
overflow, and otherwise exactly the integer quotient rounded toward zero and its remainder. -/
def IsDiv {w : Nat} (a b q : BitVec w) : Prop :=
  if b = 0 then q = BitVec.allOnes w
  else if a = BitVec.intMin w ∧ b = BitVec.allOnes w then q = a
  else q.toInt = a.toInt.tdiv b.toInt

/-- DIVU: see `IsDiv`. -/
def IsDivu {w : Nat} (a b q : BitVec w) : Prop :=
  if b = 0 then q = BitVec.allOnes w else q.toNat = a.toNat / b.toNat

/-- REM: see `IsDiv`. -/
def IsRem {w : Nat} (a b q : BitVec w) : Prop :=
  if b = 0 then q = a
  else if a = BitVec.intMin w ∧ b = BitVec.allOnes w then q = 0
  else q.toInt = a.toInt.tmod b.toInt

/-- REMU: see `IsDiv`. -/
def IsRemu {w : Nat} (a b q : BitVec w) : Prop :=
  if b = 0 then q = a else q.toNat = a.toNat % b.toNat

/-- One width of SC: with a matching reservation it stores and returns 0, or takes the store access
fault with the reservation kept; without, it stores nothing and returns 1, whatever the address; the
reservation is invalid after either. -/
def IsStoreConditional (i : Instr) (s : State) (n : Nat) (rd rs1 rs2 : RegIx) : Prop :=
  let a := (xv s rs1).toNat
  let held := s.resvValid = true ∧ s.resvAddr = s.getX rs1
  (held → Allowed s a n → Runs i s fun t =>
    Stored s t a n (xv s rs2) ∧ WritesX { s with mem := t.mem, resvValid := false } t 4 rd 0) ∧
  (held → Denied s a n → Runs i s (· = s.trap .storeAccess)) ∧
  (¬held → Runs i s (WritesX { s with resvValid := false } · 4 rd 1))

/-! ### Groups of instructions -/

/-- The six CSR instructions. -/
def isCsrInstr : Instr → Bool
  | .csrrw .. | .csrrs .. | .csrrc .. | .csrrwi .. | .csrrsi .. | .csrrci .. => true
  | _ => false

/-- The instructions that write the reservation (10_state R33). -/
def writesReservation : Instr → Bool
  | .lrW .. | .lrD .. | .scW .. | .scD .. => true
  | _ => false

/-- The instructions that write memory. -/
def writesMemory : Instr → Bool
  | .sb .. | .sh .. | .sw .. | .sd .. | .fsw .. | .fsd .. | .scW .. | .scD .. | .amoswapW ..
  | .amoaddW .. | .amoxorW .. | .amoandW .. | .amoorW .. | .amominW .. | .amomaxW .. | .amominuW ..
  | .amomaxuW .. | .amoswapD .. | .amoaddD .. | .amoxorD .. | .amoandD .. | .amoorD .. | .amominD ..
  | .amomaxD .. | .amominuD .. | .amomaxuD .. | .cFsd .. | .cSw .. | .cFsw .. | .cSd .. | .cFsdsp ..
  | .cSwsp .. | .cFswsp .. | .cSdsp .. => true
  | _ => false

/-- The instructions that write the single-precision bank. -/
def writesSingle : Instr → Bool
  | .flw .. | .fmaddS .. | .fmsubS .. | .fnmsubS .. | .fnmaddS .. | .faddS .. | .fsubS .. | .fmulS ..
  | .fdivS .. | .fsqrtS .. | .fsgnjS .. | .fsgnjnS .. | .fsgnjxS .. | .fminS .. | .fmaxS ..
  | .fcvtSW .. | .fcvtSWu .. | .fcvtSL .. | .fcvtSLu .. | .fmvWX .. | .fcvtSD .. | .cFlw ..
  | .cFlwsp .. => true
  | _ => false

/-- The instructions that write the double-precision bank. -/
def writesDouble : Instr → Bool
  | .fld .. | .fmaddD .. | .fmsubD .. | .fnmsubD .. | .fnmaddD .. | .faddD .. | .fsubD .. | .fmulD ..
  | .fdivD .. | .fsqrtD .. | .fsgnjD .. | .fsgnjnD .. | .fsgnjxD .. | .fminD .. | .fmaxD ..
  | .fcvtDW .. | .fcvtDWu .. | .fcvtDL .. | .fcvtDLu .. | .fmvDX .. | .fcvtDS .. | .cFld ..
  | .cFldsp .. => true
  | _ => false

/-- The words of 40_compressed R121's list of reserved words. -/
def ReservedWord (xl : XLen) (c : CWord) : Prop :=
  let q := c.extractLsb' 0 2
  let f3 := c.extractLsb' 13 3
  let b12 := c.extractLsb' 12 1
  let rd := c.extractLsb' 7 5
  let lo := c.extractLsb' 2 5
  (q = 0 ∧ f3 = 0 ∧ c.extractLsb' 5 8 = 0) ∨
  (q = 0 ∧ f3 = 4) ∨
  (q = 1 ∧ f3 = 1 ∧ rd = 0 ∧ xl = .rv64) ∨
  (q = 1 ∧ f3 = 3 ∧ b12 = 0 ∧ lo = 0) ∨
  (q = 1 ∧ f3 = 4 ∧ (c.extractLsb' 10 2 = 0 ∨ c.extractLsb' 10 2 = 1) ∧ b12 = 1 ∧ xl = .rv32) ∨
  (q = 1 ∧ f3 = 4 ∧ c.extractLsb' 10 2 = 3 ∧ b12 = 1 ∧
    (c.extractLsb' 5 2 = 2 ∨ c.extractLsb' 5 2 = 3)) ∨
  (q = 1 ∧ f3 = 4 ∧ c.extractLsb' 10 2 = 3 ∧ b12 = 1 ∧ xl = .rv32) ∨
  (q = 2 ∧ f3 = 0 ∧ b12 = 1 ∧ xl = .rv32) ∨
  (q = 2 ∧ f3 = 2 ∧ rd = 0) ∨
  (q = 2 ∧ f3 = 3 ∧ rd = 0 ∧ xl = .rv64) ∨
  (q = 2 ∧ f3 = 4 ∧ b12 = 0 ∧ lo = 0 ∧ rd = 0)

/-- The major opcodes of 30_encoding R85 at an XLEN. -/
def listedOpcodes : XLen → List (BitVec 7)
  | .rv32 => [0x03, 0x07, 0x0F, 0x13, 0x17, 0x23, 0x27, 0x2F, 0x33, 0x37, 0x43, 0x47, 0x4B, 0x4F, 0x53,
      0x63, 0x67, 0x6F, 0x73]
  | .rv64 => [0x03, 0x07, 0x0F, 0x13, 0x17, 0x1B, 0x23, 0x27, 0x2F, 0x33, 0x37, 0x3B, 0x43, 0x47, 0x4B,
      0x4F, 0x53, 0x63, 0x67, 0x6F, 0x73]

/-- The funct7 values of OP-FP whose funct3 is a rounding mode (30_encoding R99, R105). -/
def roundingFunct7 : List (BitVec 7) :=
  [0x00, 0x01, 0x04, 0x05, 0x08, 0x09, 0x0C, 0x0D, 0x2C, 0x2D, 0x20, 0x21, 0x60, 0x61, 0x68, 0x69]

/-! ### Compressed forms -/

/-- Where `base` completes, `i` completes as it does, but with pc + 2 as its next address. -/
def ShortFormOf (i base : Instr) (s : State) : Prop :=
  Runs i s fun t => ∃ u, exec base s = .next u ∧ t = { u with pc := (after s 2).setWidth 64 }

/-- `i` accesses memory as `base` does: where the access is allowed it completes as `base` does, with
pc + 2 as its next address; where it is denied it traps as `base` does. -/
def ShortAccess (i base : Instr) (s : State) (a n : Nat) : Prop :=
  (Allowed s a n → ShortFormOf i base s) ∧ (Denied s a n → exec i s = exec base s)

/-- The raw word that FETCH = memory assembles at the pc from two halfwords (20_memory R65). -/
def fetchedWord (s : State) : IWord :=
  let lo : BitVec 16 := loaded s s.pc.toNat 2
  let hi : BitVec 16 := loaded s (after s 2).toNat 2
  if lo.extractLsb' 0 2 = 3#2 then hi ++ lo else lo.setWidth 32

end Sys2Proof.Claim

open Sys2Proof Sys2Proof.Machine Sys2Proof.Claim

/-! ## Encoding and decoding -/

/-- Every well-formed instruction, every operand at every value its encoding admits, decodes from its
encoding (30_encoding R73 to R106, 40_compressed R120 to R165). -/
def Obligations.EncodedInstructionsDecodeBack : Prop :=
  ∀ (xl : XLen) (i : Instr), i.wf xl = true → decode xl (encode i) = .ok i

/-- The decoder answers well-formed instructions only, of the length of their word, and drops no bit
of it but bits 31:16 of a compressed word (30_encoding R70, R71, R73). -/
def Obligations.DecodedInstructionsEncodeBack : Prop :=
  ∀ (xl : XLen) (raw : IWord) (i : Instr), decode xl raw = .ok i →
    i.wf xl = true ∧ i.len = (if raw.extractLsb' 0 2 = 3#2 then 4 else 2) ∧
      encode i = if raw.extractLsb' 0 2 = 3#2 then raw else (raw.extractLsb' 0 16).setWidth 32

/-- The direct decoder of compressed words agrees with the spec's route, expanding and then decoding
the 32-bit word (30_encoding R70, 40_compressed R120, R166). -/
def Obligations.CompressedWordsDecodeLikeTheirExpansion : Prop :=
  ∀ (xl : XLen) (raw : IWord), raw.extractLsb' 0 2 ≠ 3#2 →
    match decode xl raw with
    | .ok i => decode xl (expand xl (raw.extractLsb' 0 16)) = .ok i.expansion
    | .error _ => expand xl (raw.extractLsb' 0 16) = 0

/-- The reserved compressed words are exactly those of the list of 40_compressed R121. -/
def Obligations.ReservedCompressedWordsAreExactlyTheListed : Prop :=
  ∀ (xl : XLen) (raw : IWord), raw.extractLsb' 0 2 ≠ 3#2 →
    ((∃ r, decode xl raw = .error r) ↔ ReservedWord xl (raw.extractLsb' 0 16))

/-- Every 32-bit word of a major opcode that 30_encoding R85 does not list at the XLEN is kind
Unknown, of length 4 (30_encoding R104). -/
def Obligations.UnlistedOpcodesAreUnknown : Prop :=
  ∀ (xl : XLen) (raw : IWord), raw.extractLsb' 0 2 = 3#2 →
    raw.extractLsb' 0 7 ∉ listedOpcodes xl → decode xl raw = .error (.unknownWord raw)

/-- A word of a rounding instruction whose rm field is 5 or 6 is kind Unknown (30_encoding R105). -/
def Obligations.ReservedRoundingModesAreUnknown : Prop :=
  ∀ (xl : XLen) (raw : IWord),
    (raw.extractLsb' 0 7 ∈ [0x43#7, 0x47#7, 0x4B#7, 0x4F#7] ∨
      (raw.extractLsb' 0 7 = 0x53#7 ∧ raw.extractLsb' 25 7 ∈ roundingFunct7)) →
    (raw.extractLsb' 12 3 = 5#3 ∨ raw.extractLsb' 12 3 = 6#3) →
    decode xl raw = .error (.unknownWord raw)

/-- Words written out in the spec decode to the instructions the spec reads in them. -/
def Obligations.SpecWordsDecode : Prop :=
  (∀ xl, decode xl 0x00500093#32 = .ok (.addi 1 0 5)) ∧
  (∀ xl, decode xl 0x100000EF#32 = .ok (.jal 1 0x80)) ∧
  (∀ xl, decode xl 0x004280E7#32 = .ok (.jalr 1 5 4)) ∧
  (∀ xl, decode xl 0x30529373#32 = .ok (.csrrw 6 0x305 5)) ∧
  (∀ xl, decode xl 0x1000A12F#32 = .ok (.lrW 2 1 0 0 0)) ∧
  (∀ xl, decode xl 0x123450B7#32 = .ok (.lui 1 0x12345)) ∧
  (∀ xl, decode xl 0x7FF00073#32 = .ok (.fenceSystem 0x7FF 0 0)) ∧
  (∀ xl, decode xl 0x00009002#32 = .ok .cEbreak) ∧
  decode .rv32 0x00006004#32 = .ok (.cFlw 1 0 0) ∧
  decode .rv64 0x00006004#32 = .ok (.cLd 1 0 0)

/-! ## A step -/

/-- A step runs the decoded instruction. FETCH = stream: the instruction in the next word of the stream,
whatever the pc, that word taken off (20_memory R64). FETCH = memory: the instruction that the bytes at
the pc hold, a 32-bit word in two halves that are checked separately (R65). Beside exec, a step counts
itself and moves to the next free value (assumption logs 6 and 7). -/
def Obligations.StepRunsTheDecodedInstruction : Prop :=
  (∀ (s : State) (raw : IWord) (rest : List IWord) (i : Instr), s.runEnded = false →
    s.cfg.fetch = .stream → s.stream = raw :: rest → decode s.cfg.xlen raw = .ok i →
    step s = exec i { s with stream := rest, steps := s.steps + 1, free := s.free + 1 }) ∧
  (∀ (s : State) (i : Instr), s.runEnded = false → s.cfg.fetch = .memory →
    Allowed s s.pc.toNat 2 →
    ((loaded s s.pc.toNat 2).extractLsb' 0 2 = 3#2 → Allowed s (after s 2).toNat 2) →
    decode s.cfg.xlen (fetchedWord s) = .ok i →
    step s = exec i { s with steps := s.steps + 1, free := s.free + 1 })

/-- A step on a word of kind Unknown, wherever it comes from: under UNKNOWN_POLICY = skip only the pc
advances, by the length of the word; under trap the step takes Trap(2) (45_system R305, 20_memory R64,
R65). Every step also counts itself and moves to the next free value (the model's choice, assumption logs
6 and 7). -/
def Obligations.StepOnAnUnknownWord : Prop :=
  let onUnknown := fun (s u : State) (raw : IWord) =>
    (s.cfg.unknownPolicy = .skip →
      step s = .next { u with
        pc := (after s (if raw.extractLsb' 0 2 = 3#2 then 4 else 2)).setWidth 64 }) ∧
    (s.cfg.unknownPolicy = .trap → step s = .next (u.trap .illegal))
  (∀ (s : State) (raw : IWord) (rest : List IWord) (r : Reject), s.runEnded = false →
    s.cfg.fetch = .stream → s.stream = raw :: rest → decode s.cfg.xlen raw = .error r →
    onUnknown s { s with stream := rest, steps := s.steps + 1, free := s.free + 1 } raw) ∧
  (∀ (s : State) (r : Reject), s.runEnded = false → s.cfg.fetch = .memory →
    Allowed s s.pc.toNat 2 →
    ((loaded s s.pc.toNat 2).extractLsb' 0 2 = 3#2 → Allowed s (after s 2).toNat 2) →
    decode s.cfg.xlen (fetchedWord s) = .error r →
    onUnknown s { s with steps := s.steps + 1, free := s.free + 1 } (fetchedWord s))

/-- An instruction fetch that OOB_POLICY = trap denies, in either half, takes Trap(1) with the pc of
the instruction (20_memory R65, 60_exceptions R480, R486); it counts as one step (70_reset_and_hazards
R526). That the step is counted in State and moves to the next free value, and that the second half
stands at pc + 2 modulo 2^XLEN, is the model's choice (assumption logs 6, 7 and 13). -/
def Obligations.DeniedFetchTraps : Prop :=
  ∀ (s : State), s.runEnded = false → s.cfg.fetch = .memory →
    (Denied s s.pc.toNat 2 ∨
      (Allowed s s.pc.toNat 2 ∧ (loaded s s.pc.toNat 2).extractLsb' 0 2 = 3#2 ∧
        Denied s (after s 2).toNat 2)) →
    step s = .next (State.trap { s with steps := s.steps + 1, free := s.free + 1 } .instrAccess)

/-- The run ends where END_OF_RUN says, and nowhere else while the stream has a next word:
`stream_end` after the last word, `halt_pc(a)` before the step at pc = a, `fuel(n)` after n steps
(70_reset_and_hazards R526). That the end of a run is a fault, and what happens without a next word, is
the model's choice (assumption logs 6 and 13). -/
def Obligations.TheRunEndsWhereEndOfRunSays : Prop :=
  ∀ s : State,
    (s.cfg.endOfRun = .streamEnd → s.cfg.fetch = .stream →
      (step s = .fault .endOfRun ↔ s.stream = [])) ∧
    (∀ a : Word, s.Wf → s.cfg.endOfRun = .haltPc a →
      (step s = .fault .endOfRun ↔ pcv s = a.setWidth (Xlen s))) ∧
    (∀ n, s.cfg.endOfRun = .fuel n → (step s = .fault .endOfRun ↔ n ≤ s.steps)) ∧
    (s.CanStep → ∃ t, step s = .next t)

/-! ## Reset -/

/-- Reset leaves the values of 10_state R35. -/
def Obligations.ResetValues : Prop :=
  (∀ r, State.reset.getX r = 0) ∧ State.reset.pc = 0 ∧ (∀ r, State.reset.getS r = 0) ∧
  (∀ r, State.reset.getD r = 0) ∧ (∀ a, State.reset.getCsr a = 0) ∧ State.reset.priv = 3 ∧
  State.reset.resvValid = false ∧ State.reset.resvAddr = 0

/-- The reset state has the shape of data that `StepsKeepTheShapeOfTheState` keeps. -/
def Obligations.ResetHasTheShapeOfAState : Prop :=
  ∀ cfg : Config, (State.resetFor cfg).Wf ∧ (State.resetFor cfg).PcEven ∧
    (State.resetFor cfg).VectorsEven

/-! ## Invariants and rules of the whole machine -/

/-- Every step keeps the shape of the state: XLEN-bit registers, x0 holding 0, memory canonical and
inside MEM_SIZE, inert CSRs canonical and inside 12 bits, no live CSR stored twice (10_state R20, R22,
R27, R33, 20_memory R61). -/
def Obligations.StepsKeepTheShapeOfTheState : Prop :=
  ∀ s t : State, s.Wf → step s = .next t → t.Wf

/-- From an even pc, with mtvec, mepc and sepc even, every step leads to an even pc (10_state R24). -/
def Obligations.StepsKeepThePcEven : Prop :=
  ∀ s t : State, s.PcEven → s.VectorsEven → step s = .next t → t.PcEven

/-- No step changes a parameter; each counts as one step; and it takes one word off the stream under
FETCH = stream, none under FETCH = memory (00_scope R6, 20_memory R64, 70_reset_and_hazards R526); holding these in
State is the model's choice (assumption logs 1, 5 and 6). -/
def Obligations.StepsKeepTheParameters : Prop :=
  ∀ s t : State, step s = .next t →
    t.cfg = s.cfg ∧ t.steps = s.steps + 1 ∧
      (s.cfg.fetch = .stream → ∃ raw, s.stream = raw :: t.stream) ∧
      (s.cfg.fetch = .memory → t.stream = s.stream)

/-- Only LR and SC change the reservation: no store, AMO, trap or trap return does (10_state R33,
46_atomic R333). -/
def Obligations.OnlyLrAndScChangeTheReservation : Prop :=
  ∀ (i : Instr) (s t : State), writesReservation i = false → exec i s = .next t →
    t.resvAddr = s.resvAddr ∧ t.resvValid = s.resvValid

/-- The privilege transitions are those of 60_exceptions R491: MRET, SRET, and traps to Machine. -/
def Obligations.PrivilegeTransitions : Prop :=
  ∀ (i : Instr) (s t : State), exec i s = .next t →
    match i with
    | .mret _ _ => t.priv = s.mstatus.extractLsb' 11 2
    | .sret _ _ => t.priv = if s.sstatus.getLsbD 8 then 1 else 0
    | _ => t.priv = s.priv ∨ (t.priv = 3 ∧ ∃ c, t = s.trap c)

/-- No instruction depends on the privilege level, but for what ECALL and trap entry record of it:
executed at another level, an instruction leaves the same registers, pc, memory, reservation and CSRs,
except mstatus and the CSRs of trap entry (10_state R32, 60_exceptions R490). -/
def Obligations.PrivilegeGatesNothing : Prop :=
  ∀ (i : Instr) (s t : State) (p : BitVec 2), exec i s = .next t →
    ∃ t', exec i { s with priv := p } = .next t' ∧
      t'.x = t.x ∧ t'.pc = t.pc ∧ t'.fs = t.fs ∧ t'.fd = t.fd ∧ t'.mem = t.mem ∧
      t'.resvAddr = t.resvAddr ∧ t'.resvValid = t.resvValid ∧
      ∀ a : BitVec 12, a ∉ [0x141#12, 0x142#12, 0x300#12, 0x341#12, 0x342#12] →
        t'.getCsr a = t.getCsr a

/-- What changes a CSR, the six CSR instructions apart. An inert CSR is plain storage: nothing changes it
and nothing depends on it (10_state R31). The live CSRs change as the table of 10_state R28 says: SRET
changes sstatus, MRET mstatus, trap entry the rest, nothing mtvec. -/
def Obligations.CsrsChangeOnlyByTheListedEvents : Prop :=
  ∀ (i : Instr) (s t : State), isCsrInstr i = false → exec i s = .next t →
    t.csrs = s.csrs ∧ (∀ l, exec i { s with csrs := l } = .next { t with csrs := l }) ∧
    t.mtvec = s.mtvec ∧
    (t.sstatus = s.sstatus ∨ ∃ rs1 rd, i = .sret rs1 rd) ∧
    (t.mstatus = s.mstatus ∨ (∃ rs1 rd, i = .mret rs1 rd) ∨
      (s.cfg.trapStack = .standard ∧ ∃ c, t = s.trap c)) ∧
    ((t.mepc = s.mepc ∧ t.mcause = s.mcause) ∨
      (¬(s.cfg.trapCsrs = .byLevel ∧ s.priv = 1) ∧ ∃ c, t = s.trap c)) ∧
    ((t.sepc = s.sepc ∧ t.scause = s.scause) ∨
      (s.cfg.trapCsrs = .byLevel ∧ s.priv = 1 ∧ ∃ c, t = s.trap c))

/-- Only stores, SC and AMOs change memory (20_memory R60, R62). -/
def Obligations.OnlyStoresChangeMemory : Prop :=
  ∀ (i : Instr) (s t : State), writesMemory i = false → exec i s = .next t → t.mem = s.mem

/-- The two floating-point banks are different storage: an instruction changes a bank only if it names
it as its destination, and no instruction changes both (10_state R25, 47_float_single R340). -/
def Obligations.FloatBanksAreIndependent : Prop :=
  ∀ (i : Instr) (s t : State), exec i s = .next t →
    (writesSingle i = false → t.fs = s.fs) ∧ (writesDouble i = false → t.fd = s.fd) ∧
      (t.fs = s.fs ∨ t.fd = s.fd)

/-! ## Memory -/

/-- MemRead and MemWrite: an access in range reads and writes its `n` bytes little-endian, the lowest
address in bits 7:0; a read after a write of the same bytes returns what was written; no byte outside
is touched; out of range, a read gives 0 and a write does nothing, or the access traps (20_memory R52
to R54, R56). -/
def Obligations.MemoryAccesses : Prop :=
  ∀ (s : State) (a : Word) (n : Nat) (v : BitVec (8 * n)), s.Wf →
    (Allowed s a.toNat n →
      s.memRead a n = some (loaded s a.toNat n) ∧
      ∃ t, s.memWrite a n v = some t ∧ Stored s t a.toNat n v ∧ t = { s with mem := t.mem } ∧
        (a.toNat + n ≤ s.cfg.memSize → t.memRead a n = some v)) ∧
    (Denied s a.toNat n → s.memRead a n = none ∧ s.memWrite a n v = none) ∧
    (a.toNat + n ≤ s.cfg.memSize → ∀ k < n,
      (loaded s a.toNat n).extractLsb' (8 * k) 8 = byteAt s (a.toNat + k))

/-! ## Exceptions -/

/-- The cause codes, and trap entry field by field (60_exceptions R480 to R482). -/
def Obligations.TrapEntry : Prop :=
  (causeCode .instrAccess = 1 ∧ causeCode .illegal = 2 ∧ causeCode .breakpoint = 3 ∧
    causeCode .loadAccess = 5 ∧ causeCode .storeAccess = 7 ∧
    ∀ p : BitVec 2, (causeCode (.ecall p)).toNat = 8 + p.toNat) ∧
  ∀ (s : State) (c : Cause),
    let t := s.trap c
    let toS := s.cfg.trapCsrs = .byLevel ∧ s.priv = 1
    (toS → t.sepc = s.pc.setWidth 32 ∧ t.scause = causeCode c ∧ t.mepc = s.mepc ∧
      t.mcause = s.mcause) ∧
    (¬toS → t.mepc = s.pc.setWidth 32 ∧ t.mcause = causeCode c ∧ t.sepc = s.sepc ∧
      t.scause = s.scause) ∧
    (s.cfg.trapStack = .none → t.mstatus = s.mstatus) ∧
    (s.cfg.trapStack = .standard →
      t.mstatus.extractLsb' 11 2 = s.priv ∧ t.mstatus.getLsbD 7 = s.mstatus.getLsbD 3 ∧
      t.mstatus.getLsbD 3 = false ∧
      ∀ k, k ≠ 3 → k ≠ 7 → k ≠ 11 → k ≠ 12 → t.mstatus.getLsbD k = s.mstatus.getLsbD k) ∧
    t.priv = 3 ∧ t.pc = s.mtvec.setWidth 64 ∧
    t = { s with
      sepc := t.sepc, scause := t.scause, mepc := t.mepc, mcause := t.mcause,
      mstatus := t.mstatus, priv := t.priv, pc := t.pc }

/-- ECALL takes the trap 8 + priv, EBREAK and C.EBREAK the trap 3, URET the trap 2, at every privilege
level, and that is their whole effect (45_system R280 to R282). -/
def Obligations.TrappingInstructions : Prop :=
  ∀ (s : State) (rs1 rd : RegIx),
    Runs (.ecall rs1 rd) s (· = s.trap (.ecall s.priv)) ∧
    Runs (.ebreak rs1 rd) s (· = s.trap .breakpoint) ∧
    Runs .cEbreak s (· = s.trap .breakpoint) ∧
    Runs (.uret rs1 rd) s (· = s.trap .illegal)

/-- MRET and SRET: the pc and the privilege level they restore and the bits of the status register
they change; nothing else changes (45_system R283, R284). -/
def Obligations.TrapReturns : Prop :=
  ∀ (s : State) (rs1 rd : RegIx),
    Runs (.mret rs1 rd) s (fun t =>
      t.pc = s.mepc.setWidth 64 ∧ t.priv = s.mstatus.extractLsb' 11 2 ∧
      t.mstatus.getLsbD 3 = s.mstatus.getLsbD 7 ∧ t.mstatus.getLsbD 7 = true ∧
      t.mstatus.extractLsb' 11 2 = 0 ∧
      (∀ k, k ≠ 3 → k ≠ 7 → k ≠ 11 → k ≠ 12 → t.mstatus.getLsbD k = s.mstatus.getLsbD k) ∧
      t = { s with pc := t.pc, priv := t.priv, mstatus := t.mstatus }) ∧
    Runs (.sret rs1 rd) s (fun t =>
      t.pc = s.sepc.setWidth 64 ∧ t.priv = (if s.sstatus.getLsbD 8 then 1 else 0) ∧
      t.sstatus.getLsbD 1 = s.sstatus.getLsbD 5 ∧ t.sstatus.getLsbD 5 = true ∧
      t.sstatus.getLsbD 8 = false ∧
      (∀ k, k ≠ 1 → k ≠ 5 → k ≠ 8 → t.sstatus.getLsbD k = s.sstatus.getLsbD k) ∧
      t = { s with pc := t.pc, priv := t.priv, sstatus := t.sstatus })

/-! ## System instructions -/

/-- WFI, SFENCE.VMA, FENCE (both its encodings) and FENCE.I only advance the pc (45_system R285, R290
to R292). -/
def Obligations.FencesAndWfiOnlyAdvance : Prop :=
  ∀ (s : State) (rs1 rs2 rd : RegIx) (fm pred succ : BitVec 4) (f : BitVec 12),
    Runs (.wfi rs1 rd) s (Goes s · (after s 4)) ∧
    Runs (.sfenceVma rs1 rs2 rd) s (Goes s · (after s 4)) ∧
    Runs (.fence fm pred succ rs1 rd) s (Goes s · (after s 4)) ∧
    Runs (.fenceSystem f rs1 rd) s (Goes s · (after s 4)) ∧
    Runs (.fenceI f rs1 rd) s (Goes s · (after s 4))

/-- The six CSR instructions, at every CSR address and privilege level (45_system R293 to R299). -/
def Obligations.CsrInstructions : Prop :=
  ∀ (s : State) (rd rs1 : RegIx) (csr : BitVec 12) (zimm : BitVec 5), s.Wf →
    Runs (.csrrw rd csr rs1) s (WritesCsr s · rd csr (lo32 s rs1)) ∧
    Runs (.csrrs rd csr rs1) s (WritesCsr s · rd csr (s.getCsr csr ||| lo32 s rs1)) ∧
    Runs (.csrrc rd csr rs1) s (WritesCsr s · rd csr (s.getCsr csr &&& ~~~(lo32 s rs1))) ∧
    Runs (.csrrwi rd csr zimm) s (WritesCsr s · rd csr (zimm.setWidth 32)) ∧
    Runs (.csrrsi rd csr zimm) s (WritesCsr s · rd csr (s.getCsr csr ||| zimm.setWidth 32)) ∧
    Runs (.csrrci rd csr zimm) s (WritesCsr s · rd csr (s.getCsr csr &&& ~~~(zimm.setWidth 32)))

/-! ## Integer arithmetic -/

/-- The register-register operations, each at XLEN bits, shift amounts modulo XLEN (41_alu R180 to
R190). -/
def Obligations.AluRegisterResults : Prop :=
  ∀ (s : State) (rd rs1 rs2 : RegIx),
    let w := Xlen s
    let a := xv s rs1
    let b := xv s rs2
    Runs (.add rd rs1 rs2) s (WritesX s · 4 rd (a + b)) ∧
    Runs (.sub rd rs1 rs2) s (WritesX s · 4 rd (a - b)) ∧
    Runs (.sll rd rs1 rs2) s (WritesX s · 4 rd (a <<< (b.toNat % w))) ∧
    Runs (.slt rd rs1 rs2) s (WritesX s · 4 rd (bit w (a.toInt < b.toInt))) ∧
    Runs (.sltu rd rs1 rs2) s (WritesX s · 4 rd (bit w (a.toNat < b.toNat))) ∧
    Runs (.xor rd rs1 rs2) s (WritesX s · 4 rd (a ^^^ b)) ∧
    Runs (.srl rd rs1 rs2) s (WritesX s · 4 rd (a >>> (b.toNat % w))) ∧
    Runs (.sra rd rs1 rs2) s (WritesX s · 4 rd (a.sshiftRight (b.toNat % w))) ∧
    Runs (.or rd rs1 rs2) s (WritesX s · 4 rd (a ||| b)) ∧
    Runs (.and rd rs1 rs2) s (WritesX s · 4 rd (a &&& b))

/-- The register-immediate operations, the immediate sign-extended; the shifts by an immediate that
the XLEN admits; LUI and AUIPC (41_alu R191 to R201). -/
def Obligations.AluImmediateResults : Prop :=
  ∀ (s : State) (rd rs1 : RegIx) (imm : BitVec 12) (shamt : BitVec 6) (up : BitVec 20),
    let w := Xlen s
    let a := xv s rs1
    let b := imm.signExtend w
    Runs (.addi rd rs1 imm) s (WritesX s · 4 rd (a + b)) ∧
    Runs (.slti rd rs1 imm) s (WritesX s · 4 rd (bit w (a.toInt < b.toInt))) ∧
    Runs (.sltiu rd rs1 imm) s (WritesX s · 4 rd (bit w (a.toNat < b.toNat))) ∧
    Runs (.xori rd rs1 imm) s (WritesX s · 4 rd (a ^^^ b)) ∧
    Runs (.ori rd rs1 imm) s (WritesX s · 4 rd (a ||| b)) ∧
    Runs (.andi rd rs1 imm) s (WritesX s · 4 rd (a &&& b)) ∧
    (shamt.toNat < w →
      Runs (.slli rd rs1 shamt) s (WritesX s · 4 rd (a <<< shamt.toNat)) ∧
      Runs (.srli rd rs1 shamt) s (WritesX s · 4 rd (a >>> shamt.toNat)) ∧
      Runs (.srai rd rs1 shamt) s (WritesX s · 4 rd (a.sshiftRight shamt.toNat))) ∧
    Runs (.lui rd up) s (WritesX s · 4 rd ((up ++ 0#12).signExtend w)) ∧
    Runs (.auipc rd up) s (WritesX s · 4 rd (pcv s + (up ++ 0#12).signExtend w))

/-- MUL gives the low half of the product, MULH, MULHSU and MULHU the upper half of the 2*XLEN-bit
product of the operands extended as their names say (42_muldiv R221 to R224). -/
def Obligations.MultiplyResults : Prop :=
  ∀ (s : State) (rd rs1 rs2 : RegIx),
    let w := Xlen s
    let a := xv s rs1
    let b := xv s rs2
    Runs (.mul rd rs1 rs2) s (WritesX s · 4 rd (a * b)) ∧
    Runs (.mulh rd rs1 rs2) s (WritesX s · 4 rd
      ((a.signExtend (2 * w) * b.signExtend (2 * w)).extractLsb' w w)) ∧
    Runs (.mulhsu rd rs1 rs2) s (WritesX s · 4 rd
      ((a.signExtend (2 * w) * b.setWidth (2 * w)).extractLsb' w w)) ∧
    Runs (.mulhu rd rs1 rs2) s (WritesX s · 4 rd
      ((a.setWidth (2 * w) * b.setWidth (2 * w)).extractLsb' w w))

/-- DIV, DIVU, REM and REMU for all operands, division by zero and signed overflow among them
(42_muldiv R225 to R228), and the rows of the corner-case table at either XLEN (R229). -/
def Obligations.DivisionResults : Prop :=
  ∀ (s : State) (rd rs1 rs2 : RegIx),
    let w := Xlen s
    let a := xv s rs1
    let b := xv s rs2
    let gives := fun (dv dvu rm rmu : BitVec w) =>
      Runs (.div rd rs1 rs2) s (WritesX s · 4 rd dv) ∧
      Runs (.divu rd rs1 rs2) s (WritesX s · 4 rd dvu) ∧
      Runs (.rem rd rs1 rs2) s (WritesX s · 4 rd rm) ∧
      Runs (.remu rd rs1 rs2) s (WritesX s · 4 rd rmu)
    Runs (.div rd rs1 rs2) s (fun t => ∃ q, IsDiv a b q ∧ WritesX s t 4 rd q) ∧
    Runs (.divu rd rs1 rs2) s (fun t => ∃ q, IsDivu a b q ∧ WritesX s t 4 rd q) ∧
    Runs (.rem rd rs1 rs2) s (fun t => ∃ q, IsRem a b q ∧ WritesX s t 4 rd q) ∧
    Runs (.remu rd rs1 rs2) s (fun t => ∃ q, IsRemu a b q ∧ WritesX s t 4 rd q) ∧
    (b = 0 → gives (BitVec.allOnes w) (BitVec.allOnes w) a a) ∧
    (a = BitVec.intMin w → b = BitVec.allOnes w → gives (BitVec.intMin w) 0 0 (BitVec.intMin w)) ∧
    (a = BitVec.intMin w → b = 1 → gives (BitVec.intMin w) (BitVec.intMin w) 0 0) ∧
    (a = 7 → b = BitVec.ofInt w (-2) → gives (BitVec.ofInt w (-3)) 0 1 7)

/-- The word operations of RV64: the 32-bit operation on the low words, its result sign-extended
(49_word_ops R460 to R474). -/
def Obligations.WordOperationResults : Prop :=
  ∀ (s : State) (rd rs1 rs2 : RegIx) (imm : BitVec 12) (shamt : BitVec 5), s.cfg.xlen = .rv64 →
    let w := Xlen s
    let a := lo32 s rs1
    let b := lo32 s rs2
    let writes := fun (r : BitVec 32) (t : State) => WritesX s t 4 rd (r.signExtend w)
    Runs (.addiw rd rs1 imm) s (writes (a + imm.signExtend 32)) ∧
    Runs (.slliw rd rs1 shamt) s (writes (a <<< shamt.toNat)) ∧
    Runs (.srliw rd rs1 shamt) s (writes (a >>> shamt.toNat)) ∧
    Runs (.sraiw rd rs1 shamt) s (writes (a.sshiftRight shamt.toNat)) ∧
    Runs (.addw rd rs1 rs2) s (writes (a + b)) ∧
    Runs (.subw rd rs1 rs2) s (writes (a - b)) ∧
    Runs (.sllw rd rs1 rs2) s (writes (a <<< (b.toNat % 32))) ∧
    Runs (.srlw rd rs1 rs2) s (writes (a >>> (b.toNat % 32))) ∧
    Runs (.sraw rd rs1 rs2) s (writes (a.sshiftRight (b.toNat % 32))) ∧
    Runs (.mulw rd rs1 rs2) s (writes (a * b)) ∧
    Runs (.divw rd rs1 rs2) s (fun t => ∃ q, IsDiv a b q ∧ writes q t) ∧
    Runs (.divuw rd rs1 rs2) s (fun t => ∃ q, IsDivu a b q ∧ writes q t) ∧
    Runs (.remw rd rs1 rs2) s (fun t => ∃ q, IsRem a b q ∧ writes q t) ∧
    Runs (.remuw rd rs1 rs2) s (fun t => ∃ q, IsRemu a b q ∧ writes q t)

/-! ## Loads and stores -/

/-- Integer loads, at any alignment: the bytes at the effective address, extended as the name says;
out of range, 0 or the load access fault (43_load_store R240 to R247). -/
def Obligations.IntegerLoads : Prop :=
  ∀ (s : State) (rd rs1 : RegIx) (imm : BitVec 12),
    let w := Xlen s
    let a := ea s rs1 imm
    LoadsX (.lb rd rs1 imm) s a 1 rd ((loaded s a 1).signExtend w) ∧
    LoadsX (.lh rd rs1 imm) s a 2 rd ((loaded s a 2).signExtend w) ∧
    LoadsX (.lw rd rs1 imm) s a 4 rd ((loaded s a 4).signExtend w) ∧
    LoadsX (.lbu rd rs1 imm) s a 1 rd ((loaded s a 1).setWidth w) ∧
    LoadsX (.lhu rd rs1 imm) s a 2 rd ((loaded s a 2).setWidth w) ∧
    (s.cfg.xlen = .rv64 →
      LoadsX (.lwu rd rs1 imm) s a 4 rd ((loaded s a 4).setWidth w) ∧
      LoadsX (.ld rd rs1 imm) s a 8 rd ((loaded s a 8).setWidth w))

/-- Integer stores, at any alignment: the low bytes of x[rs2] at the effective address, little-endian,
and no other byte; out of range, nothing or the store access fault (43_load_store R240, R248 to
R251). -/
def Obligations.IntegerStores : Prop :=
  ∀ (s : State) (rs1 rs2 : RegIx) (imm : BitVec 12), s.Wf →
    let a := ea s rs1 imm
    StoresAt (.sb rs1 rs2 imm) s a 1 (xv s rs2) ∧
    StoresAt (.sh rs1 rs2 imm) s a 2 (xv s rs2) ∧
    StoresAt (.sw rs1 rs2 imm) s a 4 (xv s rs2) ∧
    (s.cfg.xlen = .rv64 → StoresAt (.sd rs1 rs2 imm) s a 8 (xv s rs2))

/-- FLW, FLD, FSW and FSD move the bit pattern unchanged between memory and their bank (47_float_single
R380, R381, 48_float_double R420, R421). -/
def Obligations.FloatLoadsAndStores : Prop :=
  ∀ (s : State) (r rs1 : RegIx) (imm : BitVec 12), s.Wf →
    let a := ea s rs1 imm
    (Allowed s a 4 → Runs (.flw r rs1 imm) s (WritesS s · 4 r (loaded s a 4))) ∧
    (Allowed s a 8 → Runs (.fld r rs1 imm) s (WritesD s · 4 r (loaded s a 8))) ∧
    (Denied s a 4 → Runs (.flw r rs1 imm) s (· = s.trap .loadAccess)) ∧
    (Denied s a 8 → Runs (.fld r rs1 imm) s (· = s.trap .loadAccess)) ∧
    StoresAt (.fsw rs1 r imm) s a 4 (s.getS r) ∧
    StoresAt (.fsd rs1 r imm) s a 8 (s.getD r)

/-! ## Branches and jumps -/

/-- The conditional branches go to pc + imm or to the next instruction, and change nothing else
(44_control R260 to R267). -/
def Obligations.BranchTargets : Prop :=
  ∀ (s : State) (rs1 rs2 : RegIx) (off : BitVec 12),
    let a := xv s rs1
    let b := xv s rs2
    let target := pcv s + (off ++ 0#1).signExtend (Xlen s)
    let next := after s 4
    Runs (.beq rs1 rs2 off) s (Goes s · (if a = b then target else next)) ∧
    Runs (.bne rs1 rs2 off) s (Goes s · (if a ≠ b then target else next)) ∧
    Runs (.blt rs1 rs2 off) s (Goes s · (if a.toInt < b.toInt then target else next)) ∧
    Runs (.bge rs1 rs2 off) s (Goes s · (if b.toInt ≤ a.toInt then target else next)) ∧
    Runs (.bltu rs1 rs2 off) s (Goes s · (if a.toNat < b.toNat then target else next)) ∧
    Runs (.bgeu rs1 rs2 off) s (Goes s · (if b.toNat ≤ a.toNat then target else next))

/-- JAL and JALR write the address of the next instruction into rd and go to their target; x[rs1] is
read before rd is written, and bit 0 of JALR's target is cleared (44_control R270, R275, R276). -/
def Obligations.JumpTargetsAndLinks : Prop :=
  ∀ (s : State) (rd rs1 : RegIx) (off : BitVec 20) (imm : BitVec 12),
    Runs (.jal rd off) s
      (SetsX s · rd (after s 4) (pcv s + (off ++ 0#1).signExtend (Xlen s))) ∧
    Runs (.jalr rd rs1 imm) s
      (SetsX s · rd (after s 4) ((xv s rs1 + imm.signExtend (Xlen s)) &&& ~~~1#(Xlen s)))

/-! ## Atomics -/

/-- LR loads the word or doubleword at x[rs1] and sets the reservation to that address; out of range
under OOB_POLICY = trap it takes the load access fault and changes no reservation (46_atomic R310,
R311, R313). -/
def Obligations.LoadReserved : Prop :=
  ∀ (s : State) (rd rs1 rs2 : RegIx) (aq rl : BitVec 1), s.Wf →
    let a := (xv s rs1).toNat
    let u : State := { s with resvAddr := s.getX rs1, resvValid := true }
    (Allowed s a 4 → Runs (.lrW rd rs1 rs2 aq rl) s
      (WritesX u · 4 rd ((loaded s a 4).signExtend (Xlen s)))) ∧
    (Denied s a 4 → Runs (.lrW rd rs1 rs2 aq rl) s (· = s.trap .loadAccess)) ∧
    (s.cfg.xlen = .rv64 → Allowed s a 8 → Runs (.lrD rd rs1 rs2 aq rl) s
      (WritesX u · 4 rd ((loaded s a 8).setWidth (Xlen s)))) ∧
    (s.cfg.xlen = .rv64 → Denied s a 8 → Runs (.lrD rd rs1 rs2 aq rl) s (· = s.trap .loadAccess))

/-- SC.W and SC.D (46_atomic R310, R312, R314). -/
def Obligations.StoreConditional : Prop :=
  ∀ (s : State) (rd rs1 rs2 : RegIx) (aq rl : BitVec 1), s.Wf →
    IsStoreConditional (.scW rd rs1 rs2 aq rl) s 4 rd rs1 rs2 ∧
    (s.cfg.xlen = .rv64 → IsStoreConditional (.scD rd rs1 rs2 aq rl) s 8 rd rs1 rs2)

/-- The read-modify-write instructions: memory takes the operation's value, rd the value read before;
.W operates on 32-bit values; out of range, 0 is read and nothing written, or the store access fault
is taken (46_atomic R310, R315 to R332). -/
def Obligations.AtomicUpdates : Prop :=
  ∀ (s : State) (rd rs1 rs2 : RegIx) (aq rl : BitVec 1), s.Wf →
    let a := (xv s rs1).toNat
    let ow : BitVec 32 := loaded s a 4
    let bw := lo32 s rs2
    let od : BitVec 64 := loaded s a 8
    let bd : BitVec 64 := s.getX rs2
    let word := fun (i : Instr) (new : BitVec 32) => Updates i s a 4 rd new (ow.signExtend (Xlen s))
    let dbl := fun (i : Instr) (new : BitVec 64) => Updates i s a 8 rd new (od.setWidth (Xlen s))
    word (.amoswapW rd rs1 rs2 aq rl) bw ∧
    word (.amoaddW rd rs1 rs2 aq rl) (ow + bw) ∧
    word (.amoxorW rd rs1 rs2 aq rl) (ow ^^^ bw) ∧
    word (.amoandW rd rs1 rs2 aq rl) (ow &&& bw) ∧
    word (.amoorW rd rs1 rs2 aq rl) (ow ||| bw) ∧
    word (.amominW rd rs1 rs2 aq rl) (if ow.toInt < bw.toInt then ow else bw) ∧
    word (.amomaxW rd rs1 rs2 aq rl) (if bw.toInt ≤ ow.toInt then ow else bw) ∧
    word (.amominuW rd rs1 rs2 aq rl) (if ow.toNat < bw.toNat then ow else bw) ∧
    word (.amomaxuW rd rs1 rs2 aq rl) (if bw.toNat ≤ ow.toNat then ow else bw) ∧
    (s.cfg.xlen = .rv64 →
      dbl (.amoswapD rd rs1 rs2 aq rl) bd ∧
      dbl (.amoaddD rd rs1 rs2 aq rl) (od + bd) ∧
      dbl (.amoxorD rd rs1 rs2 aq rl) (od ^^^ bd) ∧
      dbl (.amoandD rd rs1 rs2 aq rl) (od &&& bd) ∧
      dbl (.amoorD rd rs1 rs2 aq rl) (od ||| bd) ∧
      dbl (.amominD rd rs1 rs2 aq rl) (if od.toInt < bd.toInt then od else bd) ∧
      dbl (.amomaxD rd rs1 rs2 aq rl) (if bd.toInt ≤ od.toInt then od else bd) ∧
      dbl (.amominuD rd rs1 rs2 aq rl) (if od.toNat < bd.toNat then od else bd) ∧
      dbl (.amomaxuD rd rs1 rs2 aq rl) (if bd.toNat ≤ od.toNat then od else bd))

/-- LR.W, then any instruction that is neither LR nor SC and leaves the address register as it was,
then SC.W to that register succeeds; a second SC.W then fails and stores nothing (46_atomic R312,
R333). -/
def Obligations.ReservationLaws : Prop :=
  ∀ (s s1 s2 : State) (i : Instr) (rd rd' rs1 rs2 r2 : RegIx) (aq rl : BitVec 1), s.Wf →
    exec (.lrW rd rs1 r2 aq rl) s = .next s1 → Allowed s (xv s rs1).toNat 4 →
    s1.getX rs1 = s.getX rs1 → writesReservation i = false → exec i s1 = .next s2 →
    s2.getX rs1 = s1.getX rs1 →
    ∃ s3 s4, exec (.scW rd' rs1 rs2 aq rl) s2 = .next s3 ∧ s3.getX rd' = 0 ∧ s3.resvValid = false ∧
      exec (.scW rd' rs1 rs2 aq rl) s3 = .next s4 ∧ s4.mem = s3.mem ∧
      (rd' ≠ 0 → s4.getX rd' = 1)

/-! ## Floating point -/

/-- The rounding operations of both precisions write what `F.add`, `F.sub`, `F.mul`, `F.div`, `F.sqrt`
and `F.fma` give in the direction of their rm field, or the NaN of R343, into their own bank, and
change nothing else (47_float_single R382 to R390, 48_float_double R422 to R430). The rm field values 0
to 4 select RNE, RTZ, RDN, RUP and RMM, 7 (DYN) selects RNE, and 5 and 6 are no rounding mode
(47_float_single R342). -/
def Obligations.FloatArithmeticResults : Prop :=
  (let mode := fun f : BitVec 3 => (Rm.ofBits f).map rmMode
   mode 0 = some .rne ∧ mode 1 = some .rtz ∧ mode 2 = some .rdn ∧ mode 3 = some .rup ∧
     mode 4 = some .rmm ∧ mode 5 = none ∧ mode 6 = none ∧ mode 7 = some .rne) ∧
  ∀ (s : State) (rd rs1 rs2 rs3 : RegIx) (rm : Rm),
    let m := rmMode rm
    let a := s.getS rs1
    let b := s.getS rs2
    let c := s.getS rs3
    let d := s.getD rs1
    let e := s.getD rs2
    let f := s.getD rs3
    ReturnsS (.faddS rd rs1 rs2 rm) s rd (fAdd f32 m a b) ∧
    ReturnsS (.fsubS rd rs1 rs2 rm) s rd (fAdd f32 m a (b ^^^ 0x80000000#32)) ∧
    ReturnsS (.fmulS rd rs1 rs2 rm) s rd (fMul f32 m a b) ∧
    ReturnsS (.fdivS rd rs1 rs2 rm) s rd (fDiv f32 m a b) ∧
    ReturnsS (.fsqrtS rd rs1 rm) s rd (fSqrt f32 m a) ∧
    ReturnsS (.fmaddS rd rs1 rs2 rs3 rm) s rd (fFma f32 m a b c) ∧
    ReturnsS (.fmsubS rd rs1 rs2 rs3 rm) s rd (fFma f32 m a b (c ^^^ 0x80000000#32)) ∧
    ReturnsS (.fnmsubS rd rs1 rs2 rs3 rm) s rd (fFma f32 m (a ^^^ 0x80000000#32) b c) ∧
    ReturnsS (.fnmaddS rd rs1 rs2 rs3 rm) s rd
      (fFma f32 m (a ^^^ 0x80000000#32) b (c ^^^ 0x80000000#32)) ∧
    ReturnsD (.faddD rd rs1 rs2 rm) s rd (fAdd f64 m d e) ∧
    ReturnsD (.fsubD rd rs1 rs2 rm) s rd (fAdd f64 m d (e ^^^ 0x8000000000000000#64)) ∧
    ReturnsD (.fmulD rd rs1 rs2 rm) s rd (fMul f64 m d e) ∧
    ReturnsD (.fdivD rd rs1 rs2 rm) s rd (fDiv f64 m d e) ∧
    ReturnsD (.fsqrtD rd rs1 rm) s rd (fSqrt f64 m d) ∧
    ReturnsD (.fmaddD rd rs1 rs2 rs3 rm) s rd (fFma f64 m d e f) ∧
    ReturnsD (.fmsubD rd rs1 rs2 rs3 rm) s rd (fFma f64 m d e (f ^^^ 0x8000000000000000#64)) ∧
    ReturnsD (.fnmsubD rd rs1 rs2 rs3 rm) s rd (fFma f64 m (d ^^^ 0x8000000000000000#64) e f) ∧
    ReturnsD (.fnmaddD rd rs1 rs2 rs3 rm) s rd
      (fFma f64 m (d ^^^ 0x8000000000000000#64) e (f ^^^ 0x8000000000000000#64))

/-- Sign injection is exact on bit patterns; FMIN and FMAX give one of their operands unchanged, or
the NaN of R343 where both are NaNs (47_float_single R347, R391 to R395, 48_float_double R431 to
R435). -/
def Obligations.SignInjectionMinimumAndMaximum : Prop :=
  ∀ (s : State) (rd rs1 rs2 : RegIx),
    let a := s.getS rs1
    let b := s.getS rs2
    let d := s.getD rs1
    let e := s.getD rs2
    Runs (.fsgnjS rd rs1 rs2) s
      (WritesS s · 4 rd (b.extractLsb' 31 1 ++ a.extractLsb' 0 31)) ∧
    Runs (.fsgnjnS rd rs1 rs2) s
      (WritesS s · 4 rd (~~~(b.extractLsb' 31 1) ++ a.extractLsb' 0 31)) ∧
    Runs (.fsgnjxS rd rs1 rs2) s
      (WritesS s · 4 rd ((a.extractLsb' 31 1 ^^^ b.extractLsb' 31 1) ++ a.extractLsb' 0 31)) ∧
    ReturnsS (.fminS rd rs1 rs2) s rd (fMin f32 a b) ∧
    ReturnsS (.fmaxS rd rs1 rs2) s rd (fMax f32 a b) ∧
    Runs (.fsgnjD rd rs1 rs2) s
      (WritesD s · 4 rd (e.extractLsb' 63 1 ++ d.extractLsb' 0 63)) ∧
    Runs (.fsgnjnD rd rs1 rs2) s
      (WritesD s · 4 rd (~~~(e.extractLsb' 63 1) ++ d.extractLsb' 0 63)) ∧
    Runs (.fsgnjxD rd rs1 rs2) s
      (WritesD s · 4 rd ((d.extractLsb' 63 1 ^^^ e.extractLsb' 63 1) ++ d.extractLsb' 0 63)) ∧
    ReturnsD (.fminD rd rs1 rs2) s rd (fMin f64 d e) ∧
    ReturnsD (.fmaxD rd rs1 rs2) s rd (fMax f64 d e)

/-- The comparisons and FCLASS write an integer register with 0, 1 or the class mask (47_float_single
R399 to R402, 48_float_double R438 to R441). -/
def Obligations.FloatComparesAndClass : Prop :=
  ∀ (s : State) (rd rs1 rs2 : RegIx),
    let w := Xlen s
    let a := s.getS rs1
    let b := s.getS rs2
    let d := s.getD rs1
    let e := s.getD rs2
    Runs (.feqS rd rs1 rs2) s (WritesX s · 4 rd (bit w (fEq f32 a b = true))) ∧
    Runs (.fltS rd rs1 rs2) s (WritesX s · 4 rd (bit w (fLt f32 a b = true))) ∧
    Runs (.fleS rd rs1 rs2) s (WritesX s · 4 rd (bit w (fLe f32 a b = true))) ∧
    Runs (.fclassS rd rs1) s (WritesX s · 4 rd ((fClass f32 a).setWidth w)) ∧
    Runs (.feqD rd rs1 rs2) s (WritesX s · 4 rd (bit w (fEq f64 d e = true))) ∧
    Runs (.fltD rd rs1 rs2) s (WritesX s · 4 rd (bit w (fLt f64 d e = true))) ∧
    Runs (.fleD rd rs1 rs2) s (WritesX s · 4 rd (bit w (fLe f64 d e = true))) ∧
    Runs (.fclassD rd rs1) s (WritesX s · 4 rd ((fClass f64 d).setWidth w))

/-- Conversions to integers: 32-bit results are sign-extended, the unsigned ones too; the .L and .LU
forms exist at XLEN 64. FMV.X.W and FMV.X.D keep the bit pattern (47_float_single R396 to R398, R406,
R407, 48_float_double R442, R443, R446 to R448). -/
def Obligations.ConversionsToInteger : Prop :=
  ∀ (s : State) (rd rs1 : RegIx) (rm : Rm),
    let w := Xlen s
    let m := rmMode rm
    let a := s.getS rs1
    let d := s.getD rs1
    Runs (.fcvtWS rd rs1 rm) s (WritesX s · 4 rd ((fToInt f32 m a 32 true).signExtend w)) ∧
    Runs (.fcvtWuS rd rs1 rm) s (WritesX s · 4 rd ((fToInt f32 m a 32 false).signExtend w)) ∧
    Runs (.fcvtWD rd rs1 rm) s (WritesX s · 4 rd ((fToInt f64 m d 32 true).signExtend w)) ∧
    Runs (.fcvtWuD rd rs1 rm) s (WritesX s · 4 rd ((fToInt f64 m d 32 false).signExtend w)) ∧
    Runs (.fmvXW rd rs1) s (WritesX s · 4 rd (a.signExtend w)) ∧
    (s.cfg.xlen = .rv64 →
      Runs (.fmvXD rd rs1) s (WritesX s · 4 rd (d.setWidth w)) ∧
      Runs (.fcvtLS rd rs1 rm) s (WritesX s · 4 rd ((fToInt f32 m a 64 true).setWidth w)) ∧
      Runs (.fcvtLuS rd rs1 rm) s (WritesX s · 4 rd ((fToInt f32 m a 64 false).setWidth w)) ∧
      Runs (.fcvtLD rd rs1 rm) s (WritesX s · 4 rd ((fToInt f64 m d 64 true).setWidth w)) ∧
      Runs (.fcvtLuD rd rs1 rm) s (WritesX s · 4 rd ((fToInt f64 m d 64 false).setWidth w)))

/-- Conversions from integers, from the low 32 bits in the .W and .WU forms, and between the two
precisions, each into the bank of its result; FMV.W.X and FMV.D.X keep the bit pattern (47_float_single
R403 to R405, R408, R409, 48_float_double R436, R437, R444, R445, R449 to R451). -/
def Obligations.ConversionsToFloat : Prop :=
  ∀ (s : State) (rd rs1 : RegIx) (rm : Rm),
    let m := rmMode rm
    let v := lo32 s rs1
    ReturnsS (.fcvtSW rd rs1 rm) s rd (some (fFromInt 32 f32 m v.toInt)) ∧
    ReturnsS (.fcvtSWu rd rs1 rm) s rd (some (fFromInt 32 f32 m v.toNat)) ∧
    ReturnsD (.fcvtDW rd rs1 rm) s rd (some (fFromInt 64 f64 m v.toInt)) ∧
    ReturnsD (.fcvtDWu rd rs1 rm) s rd (some (fFromInt 64 f64 m v.toNat)) ∧
    ReturnsS (.fcvtSD rd rs1 rm) s rd (fConvert 32 f64 f32 m (s.getD rs1)) ∧
    ReturnsD (.fcvtDS rd rs1 rm) s rd (fConvert 64 f32 f64 .rne (s.getS rs1)) ∧
    ReturnsS (.fmvWX rd rs1) s rd (some v) ∧
    (s.cfg.xlen = .rv64 →
      ReturnsD (.fmvDX rd rs1) s rd (some (s.getX rs1)) ∧
      ReturnsS (.fcvtSL rd rs1 rm) s rd (some (fFromInt 32 f32 m (s.getX rs1).toInt)) ∧
      ReturnsS (.fcvtSLu rd rs1 rm) s rd (some (fFromInt 32 f32 m (s.getX rs1).toNat)) ∧
      ReturnsD (.fcvtDL rd rs1 rm) s rd (some (fFromInt 64 f64 m (s.getX rs1).toInt)) ∧
      ReturnsD (.fcvtDLu rd rs1 rm) s rd (some (fFromInt 64 f64 m (s.getX rs1).toNat)))

/-- A rounding operation has a NaN result exactly where 47_float_single R343 says, and none of its
other results is a NaN; a conversion between formats has one exactly for a NaN operand, and one from an
integer never (R351, R352). -/
def Obligations.NanResultsAreExactlyTheListed : Prop :=
  ∀ (n : Nat) (F : Fmt) (m : RMode) (a b c : BitVec n), IsFormat n F →
    let nan := fun x : BitVec n => fIsNan F x = true
    let inf := fun x : BitVec n => fIsInf F x = true
    let zero := fun x : BitVec n => fIsZero F x = true
    let s := fSign F a != fSign F b
    (fAdd F m a b = none ↔ nan a ∨ nan b ∨ (inf a ∧ inf b ∧ fSign F a ≠ fSign F b)) ∧
    (fMul F m a b = none ↔ nan a ∨ nan b ∨ (zero a ∧ inf b) ∨ (inf a ∧ zero b)) ∧
    (fDiv F m a b = none ↔ nan a ∨ nan b ∨ (zero a ∧ zero b) ∨ (inf a ∧ inf b)) ∧
    (fSqrt F m a = none ↔ nan a ∨ (fSign F a = true ∧ ¬zero a)) ∧
    (fFma F m a b c = none ↔ nan a ∨ nan b ∨ nan c ∨ (zero a ∧ inf b) ∨ (inf a ∧ zero b) ∨
      ((inf a ∨ inf b) ∧ inf c ∧ fSign F c ≠ s)) ∧
    (∀ v, (fAdd F m a b = some v ∨ fMul F m a b = some v ∨ fDiv F m a b = some v ∨
      fSqrt F m a = some v ∨ fFma F m a b c = some v) → ¬nan v) ∧
    (∀ (k : Nat) (G : Fmt) (d : BitVec k), IsFormat k G →
      (fConvert n G F m d = none ↔ fIsNan G d = true) ∧ ∀ v, fConvert n G F m d = some v → ¬nan v) ∧
    (∀ v : Int, ¬nan (fFromInt n F m v))

/-- Infinite and zero operands, and exact zero results, of add, multiply, divide, fused multiply-add,
square root and the conversions to a format, where the result is no NaN (47_float_single R344 to R346,
R351, R352). -/
def Obligations.InfinitiesAndZeros : Prop :=
  ∀ (n : Nat) (F : Fmt) (m : RMode) (a b : BitVec n), IsFormat n F →
    fIsNan F a = false → fIsNan F b = false →
    let s := fSign F a != fSign F b
    let inf := fun x : BitVec n => fIsInf F x = true
    let zero := fun x : BitVec n => fIsZero F x = true
    let cancelled := fZero n F (m == .rdn)
    (inf a → ¬inf b → fAdd F m a b = some a ∧ fAdd F m b a = some a) ∧
    (inf a → inf b → fSign F a = fSign F b → fAdd F m a b = some a) ∧
    (zero a → zero b →
      fAdd F m a b = some (if fSign F a = fSign F b then a else cancelled)) ∧
    (Finite F a → ¬zero a → fAdd F m a (fNeg F a) = some cancelled) ∧
    (Finite F a → Finite F b → ¬zero a → val F a + val F b = 0 → fAdd F m a b = some cancelled) ∧
    (inf a ∨ inf b → ¬zero a → ¬zero b → fMul F m a b = some (fInf n F s)) ∧
    (zero a ∨ zero b → ¬inf a → ¬inf b → fMul F m a b = some (fZero n F s)) ∧
    (inf a → ¬inf b → fDiv F m a b = some (fInf n F s)) ∧
    (¬zero a → zero b → fDiv F m a b = some (fInf n F s)) ∧
    (zero a → ¬zero b → fDiv F m a b = some (fZero n F s)) ∧
    (¬inf a → inf b → fDiv F m a b = some (fZero n F s)) ∧
    (∀ c : BitVec n, fIsNan F c = false →
      (inf a ∨ inf b → ¬zero a → ¬zero b → (inf c → fSign F c = s) →
        fFma F m a b c = some (fInf n F s)) ∧
      (Finite F a → Finite F b → inf c → fFma F m a b c = some c) ∧
      (Finite F a → Finite F b → Finite F c → val F a * val F b + val F c = 0 →
        fFma F m a b c = some
          (if (fIsZero F a || fIsZero F b) && fSign F c == s then fZero n F s else cancelled))) ∧
    (zero a → fSqrt F m a = some a) ∧
    (inf a → fSign F a = false → fSqrt F m a = some a) ∧
    (∀ (k : Nat) (G : Fmt) (d : BitVec k), IsFormat k G →
      (fIsInf G d = true → fConvert n G F m d = some (fInf n F (fSign G d))) ∧
      (fIsZero G d = true → fConvert n G F m d = some (fZero n F (fSign G d)))) ∧
    fFromInt n F m 0 = fZero n F false

/-- Sum, product, quotient and fused multiply-add of finite operands round their exact rational value
once (47_float_single R344, R345), as do the conversions to a format, from any finite value of either
format and from any integer (R351, R352); what a rounding gives is DirectedRoundingIsTight and
NearestRoundingIsNearest. -/
def Obligations.ArithmeticRoundsTheExactValue : Prop :=
  ∀ (n : Nat) (F : Fmt) (m : RMode), IsFormat n F →
    let rounds := fun (r : ℚ) (v : Option (BitVec n)) =>
      r ≠ 0 → ∃ (neg : Bool) (num den : Nat) (e : Int), 0 < num ∧ 0 < den ∧
        r = (if neg then -1 else 1) * ((num : ℚ) / den * 2 ^ e) ∧ v = some (fRound n F m neg num den e)
    (∀ a b c : BitVec n, Finite F a → Finite F b → Finite F c →
      rounds (val F a + val F b) (fAdd F m a b) ∧
      rounds (val F a * val F b) (fMul F m a b) ∧
      (val F b ≠ 0 → rounds (val F a / val F b) (fDiv F m a b)) ∧
      rounds (val F a * val F b + val F c) (fFma F m a b c)) ∧
    (∀ (k : Nat) (G : Fmt) (d : BitVec k), IsFormat k G → Finite G d →
      rounds (val G d) (fConvert n G F m d)) ∧
    (∀ v : Int, rounds v (some (fFromInt n F m v)))

/-- The directed roundings are tight: RDN gives the greatest finite value not above the exact one, RUP
the least not below it, RTZ the one of greatest magnitude not beyond it; RDN and RUP give an infinity
only in their own direction, beyond every finite value, and RTZ never; every rounding keeps the exact
value's sign (47_float_single R342, assumption log 9). -/
def Obligations.DirectedRoundingIsTight : Prop :=
  ∀ (n : Nat) (F : Fmt) (m : RMode) (neg : Bool) (num den : Nat) (e : Int), IsFormat n F →
    0 < num → 0 < den →
    let r : ℚ := (if neg then -1 else 1) * ((num : ℚ) / den * 2 ^ e)
    let b := fRound n F m neg num den e
    fIsNan F b = false ∧ fSign F b = neg ∧
    (¬Finite F b → m ≠ .rtz ∧ (m = .rdn → neg = true) ∧ (m = .rup → neg = false) ∧
      (m = .rdn ∨ m = .rup → ∀ c : BitVec n, Finite F c → |val F c| < |r|)) ∧
    (Finite F b →
      (m = .rdn → val F b ≤ r ∧ ∀ c : BitVec n, Finite F c → val F c ≤ r → val F c ≤ val F b) ∧
      (m = .rup → r ≤ val F b ∧ ∀ c : BitVec n, Finite F c → r ≤ val F c → val F b ≤ val F c) ∧
      (m = .rtz → |val F b| ≤ |r| ∧
        ∀ c : BitVec n, Finite F c → |val F c| ≤ |r| → |val F c| ≤ |val F b|))

/-- The roundings to nearest: no finite value is nearer to the exact one than a finite result; on a
tie RNE gives the value of even fraction and RMM the one of greater magnitude; the result is finite
exactly below half a last place beyond the largest finite value (47_float_single R342, assumption log
9). -/
def Obligations.NearestRoundingIsNearest : Prop :=
  ∀ (n : Nat) (F : Fmt) (m : RMode) (neg : Bool) (num den : Nat) (e : Int), IsFormat n F →
    0 < num → 0 < den → m = .rne ∨ m = .rmm →
    let r : ℚ := (if neg then -1 else 1) * ((num : ℚ) / den * 2 ^ e)
    let b := fRound n F m neg num den e
    (Finite F b ↔ |r| < (2 - (1 / 2) ^ (F.fracBits + 1)) * 2 ^ emax F) ∧
    (Finite F b → ∀ c : BitVec n, Finite F c →
      |val F b - r| ≤ |val F c - r| ∧
      (|val F b - r| = |val F c - r| → val F c ≠ val F b →
        (m = .rne → fFrac F b % 2 = 0) ∧ (m = .rmm → |val F c| < |val F b|)))

/-- The square root of a positive finite value is correctly rounded in every direction
(47_float_single R346, assumption log 9). -/
def Obligations.SquareRootIsCorrectlyRounded : Prop :=
  ∀ (n : Nat) (F : Fmt) (m : RMode) (a : BitVec n), IsFormat n F → Finite F a → 0 < val F a →
    ∃ b : BitVec n, fSqrt F m a = some b ∧ Finite F b ∧ 0 < val F b ∧
      (m = .rdn ∨ m = .rtz → val F b ^ 2 ≤ val F a ∧
        ∀ c : BitVec n, Finite F c → 0 ≤ val F c → val F c ^ 2 ≤ val F a → val F c ≤ val F b) ∧
      (m = .rup → val F a ≤ val F b ^ 2 ∧
        ∀ c : BitVec n, Finite F c → 0 ≤ val F c → val F a ≤ val F c ^ 2 → val F b ≤ val F c) ∧
      (m = .rne ∨ m = .rmm → ∀ c : BitVec n, Finite F c →
        |(val F b : ℝ) - Real.sqrt (val F a)| ≤ |(val F c : ℝ) - Real.sqrt (val F a)|)

/-- Comparisons compare exact values, infinities beyond every finite value and equal to themselves, and
are false on a NaN; minimum and maximum choose by the same order, with -0 below +0, and give the other
operand where one is a NaN (47_float_single R347, R348). -/
def Obligations.ComparisonsCompareExactValues : Prop :=
  ∀ (n : Nat) (F : Fmt) (a b : BitVec n), IsFormat n F →
    let least := fun x y : BitVec n =>
      fMin F x y = some x ∧ fMin F y x = some x ∧ fMax F x y = some y ∧ fMax F y x = some y
    (fIsNan F a = true ∨ fIsNan F b = true →
      fEq F a b = false ∧ fLt F a b = false ∧ fLe F a b = false) ∧
    (Finite F a → Finite F b →
      (fEq F a b = true ↔ val F a = val F b) ∧ (fLt F a b = true ↔ val F a < val F b) ∧
      (fLe F a b = true ↔ val F a ≤ val F b)) ∧
    (Finite F a → fIsInf F b = true →
      fEq F a b = false ∧ fEq F b a = false ∧ fLt F a b = !fSign F b ∧ fLt F b a = fSign F b ∧
      fLe F a b = !fSign F b ∧ fLe F b a = fSign F b) ∧
    (fIsInf F a = true → fIsInf F b = true →
      fEq F a b = (fSign F a == fSign F b) ∧ fLt F a b = (fSign F a && !fSign F b) ∧
      fLe F a b = (fSign F a || !fSign F b)) ∧
    (Finite F a → Finite F b → val F a < val F b → least a b) ∧
    (Finite F a → fIsInf F b = true →
      (fSign F b = false → least a b) ∧ (fSign F b = true → least b a)) ∧
    (fIsInf F a = true → fIsInf F b = true → fSign F a = true → fSign F b = false → least a b) ∧
    (fIsNan F a = false → fMin F a a = some a ∧ fMax F a a = some a) ∧
    (fIsZero F a = true → fIsZero F b = true → fSign F a ≠ fSign F b →
      fMin F a b = some (fZero n F true) ∧ fMax F a b = some (fZero n F false)) ∧
    (fIsNan F a = true → fIsNan F b = false →
      fMin F a b = some b ∧ fMin F b a = some b ∧ fMax F a b = some b ∧ fMax F b a = some b) ∧
    (fIsNan F a = true → fIsNan F b = true → fMin F a b = none ∧ fMax F a b = none)

/-- FCLASS sets exactly one bit, the one of the class in 47_float_single R349; a NaN is told signaling
from quiet by its sign alone. -/
def Obligations.ClassMask : Prop :=
  ∀ (n : Nat) (F : Fmt) (a : BitVec n), IsFormat n F →
    let E := fExp F a
    let T := fFrac F a
    let ones := 2 ^ F.expBits - 1
    let neg := fSign F a = true
    let is := fun k => (fClass F a).getLsbD k = true
    (is 0 ↔ neg ∧ E = ones ∧ T = 0) ∧ (is 1 ↔ neg ∧ 0 < E ∧ E < ones) ∧
    (is 2 ↔ neg ∧ E = 0 ∧ T ≠ 0) ∧ (is 3 ↔ neg ∧ E = 0 ∧ T = 0) ∧
    (is 4 ↔ ¬neg ∧ E = 0 ∧ T = 0) ∧ (is 5 ↔ ¬neg ∧ E = 0 ∧ T ≠ 0) ∧
    (is 6 ↔ ¬neg ∧ 0 < E ∧ E < ones) ∧ (is 7 ↔ ¬neg ∧ E = ones ∧ T = 0) ∧
    (is 8 ↔ neg ∧ E = ones ∧ T ≠ 0) ∧ (is 9 ↔ ¬neg ∧ E = ones ∧ T ≠ 0)

/-- A conversion to an integer rounds the exact value in its direction and saturates; a NaN gives the
greatest integer (47_float_single R350). -/
def Obligations.ConversionToIntegerRoundsAndSaturates : Prop :=
  ∀ (n : Nat) (F : Fmt) (m : RMode) (a : BitVec n) (N : Nat), IsFormat n F → N = 32 ∨ N = 64 →
    let sat := fun (k lo hi : Int) => if hi < k then hi else if k < lo then lo else k
    let slo : Int := -2 ^ (N - 1)
    let shi : Int := 2 ^ (N - 1) - 1
    let uhi : Int := 2 ^ N - 1
    let gives := fun (sgn usn : Int) =>
      (fToInt F m a N true).toInt = sgn ∧ ((fToInt F m a N false).toNat : Int) = usn
    (fIsNan F a = true → gives shi uhi) ∧
    (fIsInf F a = true → gives (if fSign F a then slo else shi) (if fSign F a then 0 else uhi)) ∧
    (Finite F a → ∃ k : Int, gives (sat k slo shi) (sat k 0 uhi) ∧
      (m = .rdn → k = ⌊val F a⌋) ∧ (m = .rup → k = ⌈val F a⌉) ∧
      (m = .rtz → k = if 0 ≤ val F a then ⌊val F a⌋ else ⌈val F a⌉) ∧
      (m = .rne ∨ m = .rmm → |(k : ℚ) - val F a| ≤ 1 / 2) ∧
      (|(k : ℚ) - val F a| = 1 / 2 →
        (m = .rne → k % 2 = 0) ∧ (m = .rmm → |val F a| < |(k : ℚ)|)))

/-- Every binary32 value converts to binary64 exactly, and every 32-bit integer does
(47_float_single R351, R352). -/
def Obligations.ExactConversions : Prop :=
  (∀ (m : RMode) (a : BitVec 32), Finite f32 a →
    ∃ b : BitVec 64, fConvert 64 f32 f64 m a = some b ∧ Finite f64 b ∧ val f64 b = val f32 a ∧
      fSign f64 b = fSign f32 a) ∧
  (∀ (m : RMode) (v : Int), v.natAbs ≤ 2 ^ 32 →
    Finite f64 (fFromInt 64 f64 m v) ∧ val f64 (fFromInt 64 f64 m v) = v)

/-! ## Compressed instructions -/

/-- The compressed instructions that only compute act as their expansion does, with pc + 2 as their
next address (40_compressed R124, R133, R134, R136 to R148, R152, R158, R161, R166). -/
def Obligations.CompressedArithmetic : Prop :=
  ∀ (s : State) (rd rs2 : RegIx) (rd' rs2' : CRegIx) (imm : BitVec 6) (imm8 : BitVec 8),
    let d := creg rd'
    let e := creg rs2'
    let i := imm.signExtend 12
    ShortFormOf (.cAddi4spn rd' imm8) (.addi d 2 (0#2 ++ imm8 ++ 0#2)) s ∧
    ShortFormOf (.cNop imm) (.addi 0 0 i) s ∧
    ShortFormOf (.cAddi rd imm) (.addi rd rd i) s ∧
    ShortFormOf (.cLi rd imm) (.addi rd 0 i) s ∧
    ShortFormOf (.cAddi16sp imm) (.addi 2 2 ((imm ++ 0#4).signExtend 12)) s ∧
    ShortFormOf (.cLui rd imm) (.lui rd (imm.signExtend 20)) s ∧
    ShortFormOf (.cSrli rd' imm) (.srli d d imm) s ∧
    ShortFormOf (.cSrai rd' imm) (.srai d d imm) s ∧
    ShortFormOf (.cAndi rd' imm) (.andi d d i) s ∧
    ShortFormOf (.cSub rd' rs2') (.sub d d e) s ∧
    ShortFormOf (.cXor rd' rs2') (.xor d d e) s ∧
    ShortFormOf (.cOr rd' rs2') (.or d d e) s ∧
    ShortFormOf (.cAnd rd' rs2') (.and d d e) s ∧
    ShortFormOf (.cSlli rd imm) (.slli rd rd imm) s ∧
    ShortFormOf (.cMv rd rs2) (.add rd 0 rs2) s ∧
    ShortFormOf (.cAdd rd rs2) (.add rd rd rs2) s ∧
    (s.cfg.xlen = .rv64 →
      ShortFormOf (.cAddiw rd imm) (.addiw rd rd i) s ∧
      ShortFormOf (.cSubw rd' rs2') (.subw d d e) s ∧
      ShortFormOf (.cAddw rd' rs2') (.addw d d e) s)

/-- The compressed loads and stores act as their expansion does, with pc + 2 as their next address; a
denied access traps with the address of the compressed word (40_compressed R125 to R132, R153 to R156,
R162 to R166). -/
def Obligations.CompressedLoadsAndStores : Prop :=
  ∀ (s : State) (r : RegIx) (r' rs1' : CRegIx) (imm : BitVec 5) (imm6 : BitVec 6),
    let d := creg r'
    let b := creg rs1'
    let iw : BitVec 12 := 0#5 ++ imm ++ 0#2
    let id : BitVec 12 := 0#4 ++ imm ++ 0#3
    let sw : BitVec 12 := 0#4 ++ imm6 ++ 0#2
    let sd : BitVec 12 := 0#3 ++ imm6 ++ 0#3
    ShortAccess (.cFld r' rs1' imm) (.fld d b id) s (ea s b id) 8 ∧
    ShortAccess (.cLw r' rs1' imm) (.lw d b iw) s (ea s b iw) 4 ∧
    ShortAccess (.cFsd rs1' r' imm) (.fsd b d id) s (ea s b id) 8 ∧
    ShortAccess (.cSw rs1' r' imm) (.sw b d iw) s (ea s b iw) 4 ∧
    ShortAccess (.cFldsp r imm6) (.fld r 2 sd) s (ea s 2 sd) 8 ∧
    ShortAccess (.cLwsp r imm6) (.lw r 2 sw) s (ea s 2 sw) 4 ∧
    ShortAccess (.cFsdsp r imm6) (.fsd 2 r sd) s (ea s 2 sd) 8 ∧
    ShortAccess (.cSwsp r imm6) (.sw 2 r sw) s (ea s 2 sw) 4 ∧
    (s.cfg.xlen = .rv32 →
      ShortAccess (.cFlw r' rs1' imm) (.flw d b iw) s (ea s b iw) 4 ∧
      ShortAccess (.cFsw rs1' r' imm) (.fsw b d iw) s (ea s b iw) 4 ∧
      ShortAccess (.cFlwsp r imm6) (.flw r 2 sw) s (ea s 2 sw) 4 ∧
      ShortAccess (.cFswsp r imm6) (.fsw 2 r sw) s (ea s 2 sw) 4) ∧
    (s.cfg.xlen = .rv64 →
      ShortAccess (.cLd r' rs1' imm) (.ld d b id) s (ea s b id) 8 ∧
      ShortAccess (.cSd rs1' r' imm) (.sd b d id) s (ea s b id) 8 ∧
      ShortAccess (.cLdsp r imm6) (.ld r 2 sd) s (ea s 2 sd) 8 ∧
      ShortAccess (.cSdsp r imm6) (.sd 2 r sd) s (ea s 2 sd) 8)

/-- The compressed jumps and branches: their targets, and pc + 2 as link and as the address of the next
instruction (40_compressed R135, R149 to R151, R157, R160, R166, 44_control R270). -/
def Obligations.CompressedJumpsAndBranches : Prop :=
  ∀ (s : State) (rs1 : RegIx) (rs1' : CRegIx) (off : BitVec 11) (off8 : BitVec 8),
    let w := Xlen s
    let next := after s 2
    let target := pcv s + (off ++ 0#1).signExtend w
    let branch := pcv s + (off8 ++ 0#1).signExtend w
    let a := xv s (creg rs1')
    Runs (.cJ off) s (Goes s · target) ∧
    (s.cfg.xlen = .rv32 → Runs (.cJal off) s (SetsX s · 1 next target)) ∧
    Runs (.cJr rs1) s (Goes s · (xv s rs1 &&& ~~~1#w)) ∧
    Runs (.cJalr rs1) s (SetsX s · 1 next (xv s rs1 &&& ~~~1#w)) ∧
    Runs (.cBeqz rs1' off8) s (Goes s · (if a = 0 then branch else next)) ∧
    Runs (.cBnez rs1' off8) s (Goes s · (if a ≠ 0 then branch else next))
end

