-- ==== Sys2Proof/Laws/Encoding.lean ====
section
/-! SUPPORT. What each field of an encoded word reads as, so that no proof about decoding unfolds a layout. -/

set_option linter.unusedSimpArgs false
set_option linter.unusedTactic false
set_option linter.unreachableTactic false
set_option linter.unnecessarySeqFocus false

namespace Sys2Proof

/-! ## The 32-bit formats (30_encoding R75) -/

@[simp] theorem Fld.opcode_encR (op : BitVec 7) (f3 : BitVec 3) (f7 : BitVec 7) (rd rs1 rs2 : RegIx) :
    Fld.opcode (encR op f3 f7 rd rs1 rs2) = op := by
  unfold Fld.opcode encR
  ext i hi
  simp only [BitVec.getElem_append, BitVec.getElem_extractLsb', BitVec.getLsbD_append,
    BitVec.getLsbD_extractLsb']
  interval_cases i <;> first | rfl | simp

@[simp] theorem Fld.rd_encR (op : BitVec 7) (f3 : BitVec 3) (f7 : BitVec 7) (rd rs1 rs2 : RegIx) :
    Fld.rd (encR op f3 f7 rd rs1 rs2) = rd := by
  unfold Fld.rd encR
  ext i hi
  simp only [BitVec.getElem_append, BitVec.getElem_extractLsb', BitVec.getLsbD_append,
    BitVec.getLsbD_extractLsb']
  interval_cases i <;> first | rfl | simp

@[simp] theorem Fld.funct3_encR (op : BitVec 7) (f3 : BitVec 3) (f7 : BitVec 7) (rd rs1 rs2 : RegIx) :
    Fld.funct3 (encR op f3 f7 rd rs1 rs2) = f3 := by
  unfold Fld.funct3 encR
  ext i hi
  simp only [BitVec.getElem_append, BitVec.getElem_extractLsb', BitVec.getLsbD_append,
    BitVec.getLsbD_extractLsb']
  interval_cases i <;> first | rfl | simp

@[simp] theorem Fld.rs1_encR (op : BitVec 7) (f3 : BitVec 3) (f7 : BitVec 7) (rd rs1 rs2 : RegIx) :
    Fld.rs1 (encR op f3 f7 rd rs1 rs2) = rs1 := by
  unfold Fld.rs1 encR
  ext i hi
  simp only [BitVec.getElem_append, BitVec.getElem_extractLsb', BitVec.getLsbD_append,
    BitVec.getLsbD_extractLsb']
  interval_cases i <;> first | rfl | simp

@[simp] theorem Fld.rs2_encR (op : BitVec 7) (f3 : BitVec 3) (f7 : BitVec 7) (rd rs1 rs2 : RegIx) :
    Fld.rs2 (encR op f3 f7 rd rs1 rs2) = rs2 := by
  unfold Fld.rs2 encR
  ext i hi
  simp only [BitVec.getElem_append, BitVec.getElem_extractLsb', BitVec.getLsbD_append,
    BitVec.getLsbD_extractLsb']
  interval_cases i <;> first | rfl | simp

@[simp] theorem Fld.shamt5_encR (op : BitVec 7) (f3 : BitVec 3) (f7 : BitVec 7) (rd rs1 rs2 : RegIx) :
    Fld.shamt5 (encR op f3 f7 rd rs1 rs2) = rs2 := by
  unfold Fld.shamt5 encR
  ext i hi
  simp only [BitVec.getElem_append, BitVec.getElem_extractLsb', BitVec.getLsbD_append,
    BitVec.getLsbD_extractLsb']
  interval_cases i <;> first | rfl | simp

@[simp] theorem Fld.funct7_encR (op : BitVec 7) (f3 : BitVec 3) (f7 : BitVec 7) (rd rs1 rs2 : RegIx) :
    Fld.funct7 (encR op f3 f7 rd rs1 rs2) = f7 := by
  unfold Fld.funct7 encR
  ext i hi
  simp only [BitVec.getElem_append, BitVec.getElem_extractLsb', BitVec.getLsbD_append,
    BitVec.getLsbD_extractLsb']
  interval_cases i <;> first | rfl | simp

@[simp] theorem Fld.funct12_encR (op : BitVec 7) (f3 : BitVec 3) (f7 : BitVec 7) (rd rs1 rs2 : RegIx) :
    Fld.funct12 (encR op f3 f7 rd rs1 rs2) = f7 ++ rs2 := by
  unfold Fld.funct12 encR
  apply BitVec.eq_of_getLsbD_eq; intro i hi
  rw [show (f7 ++ rs2 : BitVec 12).getLsbD i = (f7 ++ rs2 : BitVec (7 + 5)).getLsbD i from rfl]
  simp only [BitVec.getLsbD_append, BitVec.getLsbD_extractLsb']
  interval_cases i <;> rfl

@[simp] theorem Fld.opcode_encR4 (op : BitVec 7) (fmt : BitVec 2) (rd rs1 rs2 rs3 : RegIx) (rm : Rm) :
    Fld.opcode (encR4 op fmt rd rs1 rs2 rs3 rm) = op := by
  unfold Fld.opcode encR4
  ext i hi
  simp only [BitVec.getElem_append, BitVec.getElem_extractLsb', BitVec.getLsbD_append,
    BitVec.getLsbD_extractLsb']
  interval_cases i <;> first | rfl | simp

@[simp] theorem Fld.rd_encR4 (op : BitVec 7) (fmt : BitVec 2) (rd rs1 rs2 rs3 : RegIx) (rm : Rm) :
    Fld.rd (encR4 op fmt rd rs1 rs2 rs3 rm) = rd := by
  unfold Fld.rd encR4
  ext i hi
  simp only [BitVec.getElem_append, BitVec.getElem_extractLsb', BitVec.getLsbD_append,
    BitVec.getLsbD_extractLsb']
  interval_cases i <;> first | rfl | simp

@[simp] theorem Fld.funct3_encR4 (op : BitVec 7) (fmt : BitVec 2) (rd rs1 rs2 rs3 : RegIx) (rm : Rm) :
    Fld.funct3 (encR4 op fmt rd rs1 rs2 rs3 rm) = rm.bits := by
  unfold Fld.funct3 encR4
  ext i hi
  simp only [BitVec.getElem_append, BitVec.getElem_extractLsb', BitVec.getLsbD_append,
    BitVec.getLsbD_extractLsb']
  interval_cases i <;> first | rfl | simp

@[simp] theorem Fld.rs1_encR4 (op : BitVec 7) (fmt : BitVec 2) (rd rs1 rs2 rs3 : RegIx) (rm : Rm) :
    Fld.rs1 (encR4 op fmt rd rs1 rs2 rs3 rm) = rs1 := by
  unfold Fld.rs1 encR4
  ext i hi
  simp only [BitVec.getElem_append, BitVec.getElem_extractLsb', BitVec.getLsbD_append,
    BitVec.getLsbD_extractLsb']
  interval_cases i <;> first | rfl | simp

@[simp] theorem Fld.rs2_encR4 (op : BitVec 7) (fmt : BitVec 2) (rd rs1 rs2 rs3 : RegIx) (rm : Rm) :
    Fld.rs2 (encR4 op fmt rd rs1 rs2 rs3 rm) = rs2 := by
  unfold Fld.rs2 encR4
  ext i hi
  simp only [BitVec.getElem_append, BitVec.getElem_extractLsb', BitVec.getLsbD_append,
    BitVec.getLsbD_extractLsb']
  interval_cases i <;> first | rfl | simp

@[simp] theorem Fld.fmt_encR4 (op : BitVec 7) (fmt : BitVec 2) (rd rs1 rs2 rs3 : RegIx) (rm : Rm) :
    Fld.fmt (encR4 op fmt rd rs1 rs2 rs3 rm) = fmt := by
  unfold Fld.fmt encR4
  ext i hi
  simp only [BitVec.getElem_append, BitVec.getElem_extractLsb', BitVec.getLsbD_append,
    BitVec.getLsbD_extractLsb']
  interval_cases i <;> first | rfl | simp

@[simp] theorem Fld.rs3_encR4 (op : BitVec 7) (fmt : BitVec 2) (rd rs1 rs2 rs3 : RegIx) (rm : Rm) :
    Fld.rs3 (encR4 op fmt rd rs1 rs2 rs3 rm) = rs3 := by
  unfold Fld.rs3 encR4
  ext i hi
  simp only [BitVec.getElem_append, BitVec.getElem_extractLsb', BitVec.getLsbD_append,
    BitVec.getLsbD_extractLsb']
  interval_cases i <;> first | rfl | simp

@[simp] theorem Fld.opcode_encAmo (f3 : BitVec 3) (f5 : BitVec 5) (rd rs1 rs2 : RegIx) (aq rl : BitVec 1) :
    Fld.opcode (encAmo f3 f5 rd rs1 rs2 aq rl) = 0x2F#7 := by
  unfold Fld.opcode encAmo
  ext i hi
  simp only [BitVec.getElem_append, BitVec.getElem_extractLsb', BitVec.getLsbD_append,
    BitVec.getLsbD_extractLsb']
  interval_cases i <;> first | rfl | simp

@[simp] theorem Fld.rd_encAmo (f3 : BitVec 3) (f5 : BitVec 5) (rd rs1 rs2 : RegIx) (aq rl : BitVec 1) :
    Fld.rd (encAmo f3 f5 rd rs1 rs2 aq rl) = rd := by
  unfold Fld.rd encAmo
  ext i hi
  simp only [BitVec.getElem_append, BitVec.getElem_extractLsb', BitVec.getLsbD_append,
    BitVec.getLsbD_extractLsb']
  interval_cases i <;> first | rfl | simp

@[simp] theorem Fld.funct3_encAmo (f3 : BitVec 3) (f5 : BitVec 5) (rd rs1 rs2 : RegIx) (aq rl : BitVec 1) :
    Fld.funct3 (encAmo f3 f5 rd rs1 rs2 aq rl) = f3 := by
  unfold Fld.funct3 encAmo
  ext i hi
  simp only [BitVec.getElem_append, BitVec.getElem_extractLsb', BitVec.getLsbD_append,
    BitVec.getLsbD_extractLsb']
  interval_cases i <;> first | rfl | simp

@[simp] theorem Fld.rs1_encAmo (f3 : BitVec 3) (f5 : BitVec 5) (rd rs1 rs2 : RegIx) (aq rl : BitVec 1) :
    Fld.rs1 (encAmo f3 f5 rd rs1 rs2 aq rl) = rs1 := by
  unfold Fld.rs1 encAmo
  ext i hi
  simp only [BitVec.getElem_append, BitVec.getElem_extractLsb', BitVec.getLsbD_append,
    BitVec.getLsbD_extractLsb']
  interval_cases i <;> first | rfl | simp

@[simp] theorem Fld.rs2_encAmo (f3 : BitVec 3) (f5 : BitVec 5) (rd rs1 rs2 : RegIx) (aq rl : BitVec 1) :
    Fld.rs2 (encAmo f3 f5 rd rs1 rs2 aq rl) = rs2 := by
  unfold Fld.rs2 encAmo
  ext i hi
  simp only [BitVec.getElem_append, BitVec.getElem_extractLsb', BitVec.getLsbD_append,
    BitVec.getLsbD_extractLsb']
  interval_cases i <;> first | rfl | simp

@[simp] theorem Fld.rl_encAmo (f3 : BitVec 3) (f5 : BitVec 5) (rd rs1 rs2 : RegIx) (aq rl : BitVec 1) :
    Fld.rl (encAmo f3 f5 rd rs1 rs2 aq rl) = rl := by
  unfold Fld.rl encAmo
  ext i hi
  simp only [BitVec.getElem_append, BitVec.getElem_extractLsb', BitVec.getLsbD_append,
    BitVec.getLsbD_extractLsb']
  interval_cases i <;> first | rfl | simp

@[simp] theorem Fld.aq_encAmo (f3 : BitVec 3) (f5 : BitVec 5) (rd rs1 rs2 : RegIx) (aq rl : BitVec 1) :
    Fld.aq (encAmo f3 f5 rd rs1 rs2 aq rl) = aq := by
  unfold Fld.aq encAmo
  ext i hi
  simp only [BitVec.getElem_append, BitVec.getElem_extractLsb', BitVec.getLsbD_append,
    BitVec.getLsbD_extractLsb']
  interval_cases i <;> first | rfl | simp

@[simp] theorem Fld.funct5_encAmo (f3 : BitVec 3) (f5 : BitVec 5) (rd rs1 rs2 : RegIx) (aq rl : BitVec 1) :
    Fld.funct5 (encAmo f3 f5 rd rs1 rs2 aq rl) = f5 := by
  unfold Fld.funct5 encAmo
  ext i hi
  simp only [BitVec.getElem_append, BitVec.getElem_extractLsb', BitVec.getLsbD_append,
    BitVec.getLsbD_extractLsb']
  interval_cases i <;> first | rfl | simp

@[simp] theorem Fld.opcode_encI (op : BitVec 7) (f3 : BitVec 3) (rd rs1 : RegIx) (imm : BitVec 12) :
    Fld.opcode (encI op f3 rd rs1 imm) = op := by
  unfold Fld.opcode encI
  ext i hi
  simp only [BitVec.getElem_append, BitVec.getElem_extractLsb', BitVec.getLsbD_append,
    BitVec.getLsbD_extractLsb']
  interval_cases i <;> first | rfl | simp

@[simp] theorem Fld.rd_encI (op : BitVec 7) (f3 : BitVec 3) (rd rs1 : RegIx) (imm : BitVec 12) :
    Fld.rd (encI op f3 rd rs1 imm) = rd := by
  unfold Fld.rd encI
  ext i hi
  simp only [BitVec.getElem_append, BitVec.getElem_extractLsb', BitVec.getLsbD_append,
    BitVec.getLsbD_extractLsb']
  interval_cases i <;> first | rfl | simp

@[simp] theorem Fld.funct3_encI (op : BitVec 7) (f3 : BitVec 3) (rd rs1 : RegIx) (imm : BitVec 12) :
    Fld.funct3 (encI op f3 rd rs1 imm) = f3 := by
  unfold Fld.funct3 encI
  ext i hi
  simp only [BitVec.getElem_append, BitVec.getElem_extractLsb', BitVec.getLsbD_append,
    BitVec.getLsbD_extractLsb']
  interval_cases i <;> first | rfl | simp

@[simp] theorem Fld.rs1_encI (op : BitVec 7) (f3 : BitVec 3) (rd rs1 : RegIx) (imm : BitVec 12) :
    Fld.rs1 (encI op f3 rd rs1 imm) = rs1 := by
  unfold Fld.rs1 encI
  ext i hi
  simp only [BitVec.getElem_append, BitVec.getElem_extractLsb', BitVec.getLsbD_append,
    BitVec.getLsbD_extractLsb']
  interval_cases i <;> first | rfl | simp

@[simp] theorem Fld.zimm_encI (op : BitVec 7) (f3 : BitVec 3) (rd rs1 : RegIx) (imm : BitVec 12) :
    Fld.zimm (encI op f3 rd rs1 imm) = rs1 := by
  unfold Fld.zimm encI
  ext i hi
  simp only [BitVec.getElem_append, BitVec.getElem_extractLsb', BitVec.getLsbD_append,
    BitVec.getLsbD_extractLsb']
  interval_cases i <;> first | rfl | simp

@[simp] theorem Fld.immI_encI (op : BitVec 7) (f3 : BitVec 3) (rd rs1 : RegIx) (imm : BitVec 12) :
    Fld.immI (encI op f3 rd rs1 imm) = imm := by
  unfold Fld.immI encI
  ext i hi
  simp only [BitVec.getElem_append, BitVec.getElem_extractLsb', BitVec.getLsbD_append,
    BitVec.getLsbD_extractLsb']
  interval_cases i <;> first | rfl | simp

@[simp] theorem Fld.csr_encI (op : BitVec 7) (f3 : BitVec 3) (rd rs1 : RegIx) (imm : BitVec 12) :
    Fld.csr (encI op f3 rd rs1 imm) = imm := by
  unfold Fld.csr encI
  ext i hi
  simp only [BitVec.getElem_append, BitVec.getElem_extractLsb', BitVec.getLsbD_append,
    BitVec.getLsbD_extractLsb']
  interval_cases i <;> first | rfl | simp

@[simp] theorem Fld.funct12_encI (op : BitVec 7) (f3 : BitVec 3) (rd rs1 : RegIx) (imm : BitVec 12) :
    Fld.funct12 (encI op f3 rd rs1 imm) = imm := by
  unfold Fld.funct12 encI
  ext i hi
  simp only [BitVec.getElem_append, BitVec.getElem_extractLsb', BitVec.getLsbD_append,
    BitVec.getLsbD_extractLsb']
  interval_cases i <;> first | rfl | simp

@[simp] theorem Fld.shamt_encI (op : BitVec 7) (f3 : BitVec 3) (rd rs1 : RegIx) (imm : BitVec 12) :
    Fld.shamt (encI op f3 rd rs1 imm) = imm.extractLsb' 0 6 := by
  unfold Fld.shamt encI
  ext i hi
  simp only [BitVec.getElem_append, BitVec.getElem_extractLsb', BitVec.getLsbD_append,
    BitVec.getLsbD_extractLsb']
  interval_cases i <;> first | rfl | simp

@[simp] theorem Fld.funct6_encI (op : BitVec 7) (f3 : BitVec 3) (rd rs1 : RegIx) (imm : BitVec 12) :
    Fld.funct6 (encI op f3 rd rs1 imm) = imm.extractLsb' 6 6 := by
  unfold Fld.funct6 encI
  ext i hi
  simp only [BitVec.getElem_append, BitVec.getElem_extractLsb', BitVec.getLsbD_append,
    BitVec.getLsbD_extractLsb']
  interval_cases i <;> first | rfl | simp

@[simp] theorem Fld.funct7_encI (op : BitVec 7) (f3 : BitVec 3) (rd rs1 : RegIx) (imm : BitVec 12) :
    Fld.funct7 (encI op f3 rd rs1 imm) = imm.extractLsb' 5 7 := by
  unfold Fld.funct7 encI
  ext i hi
  simp only [BitVec.getElem_append, BitVec.getElem_extractLsb', BitVec.getLsbD_append,
    BitVec.getLsbD_extractLsb']
  interval_cases i <;> first | rfl | simp

@[simp] theorem Fld.opcode_encSh (f3 : BitVec 3) (f6 : BitVec 6) (rd rs1 : RegIx) (shamt : BitVec 6) :
    Fld.opcode (encSh f3 f6 rd rs1 shamt) = 0x13#7 := by
  unfold Fld.opcode encSh
  ext i hi
  simp only [BitVec.getElem_append, BitVec.getElem_extractLsb', BitVec.getLsbD_append,
    BitVec.getLsbD_extractLsb']
  interval_cases i <;> first | rfl | simp

@[simp] theorem Fld.rd_encSh (f3 : BitVec 3) (f6 : BitVec 6) (rd rs1 : RegIx) (shamt : BitVec 6) :
    Fld.rd (encSh f3 f6 rd rs1 shamt) = rd := by
  unfold Fld.rd encSh
  ext i hi
  simp only [BitVec.getElem_append, BitVec.getElem_extractLsb', BitVec.getLsbD_append,
    BitVec.getLsbD_extractLsb']
  interval_cases i <;> first | rfl | simp

@[simp] theorem Fld.funct3_encSh (f3 : BitVec 3) (f6 : BitVec 6) (rd rs1 : RegIx) (shamt : BitVec 6) :
    Fld.funct3 (encSh f3 f6 rd rs1 shamt) = f3 := by
  unfold Fld.funct3 encSh
  ext i hi
  simp only [BitVec.getElem_append, BitVec.getElem_extractLsb', BitVec.getLsbD_append,
    BitVec.getLsbD_extractLsb']
  interval_cases i <;> first | rfl | simp

@[simp] theorem Fld.rs1_encSh (f3 : BitVec 3) (f6 : BitVec 6) (rd rs1 : RegIx) (shamt : BitVec 6) :
    Fld.rs1 (encSh f3 f6 rd rs1 shamt) = rs1 := by
  unfold Fld.rs1 encSh
  ext i hi
  simp only [BitVec.getElem_append, BitVec.getElem_extractLsb', BitVec.getLsbD_append,
    BitVec.getLsbD_extractLsb']
  interval_cases i <;> first | rfl | simp

@[simp] theorem Fld.shamt_encSh (f3 : BitVec 3) (f6 : BitVec 6) (rd rs1 : RegIx) (shamt : BitVec 6) :
    Fld.shamt (encSh f3 f6 rd rs1 shamt) = shamt := by
  unfold Fld.shamt encSh
  ext i hi
  simp only [BitVec.getElem_append, BitVec.getElem_extractLsb', BitVec.getLsbD_append,
    BitVec.getLsbD_extractLsb']
  interval_cases i <;> first | rfl | simp

@[simp] theorem Fld.funct6_encSh (f3 : BitVec 3) (f6 : BitVec 6) (rd rs1 : RegIx) (shamt : BitVec 6) :
    Fld.funct6 (encSh f3 f6 rd rs1 shamt) = f6 := by
  unfold Fld.funct6 encSh
  ext i hi
  simp only [BitVec.getElem_append, BitVec.getElem_extractLsb', BitVec.getLsbD_append,
    BitVec.getLsbD_extractLsb']
  interval_cases i <;> first | rfl | simp

@[simp] theorem Fld.funct7_encSh (f3 : BitVec 3) (f6 : BitVec 6) (rd rs1 : RegIx) (shamt : BitVec 6) :
    Fld.funct7 (encSh f3 f6 rd rs1 shamt) = f6 ++ shamt.extractLsb' 5 1 := by
  unfold Fld.funct7 encSh
  apply BitVec.eq_of_getLsbD_eq; intro i hi
  rw [show (f6 ++ shamt.extractLsb' 5 1 : BitVec 7).getLsbD i = (f6 ++ shamt.extractLsb' 5 1 : BitVec (6 + 1)).getLsbD i from rfl]
  simp only [BitVec.getLsbD_append, BitVec.getLsbD_extractLsb']
  interval_cases i <;> rfl

@[simp] theorem Fld.opcode_encS (op : BitVec 7) (f3 : BitVec 3) (rs1 rs2 : RegIx) (imm : BitVec 12) :
    Fld.opcode (encS op f3 rs1 rs2 imm) = op := by
  unfold Fld.opcode encS
  ext i hi
  simp only [BitVec.getElem_append, BitVec.getElem_extractLsb', BitVec.getLsbD_append,
    BitVec.getLsbD_extractLsb']
  interval_cases i <;> first | rfl | simp

@[simp] theorem Fld.funct3_encS (op : BitVec 7) (f3 : BitVec 3) (rs1 rs2 : RegIx) (imm : BitVec 12) :
    Fld.funct3 (encS op f3 rs1 rs2 imm) = f3 := by
  unfold Fld.funct3 encS
  ext i hi
  simp only [BitVec.getElem_append, BitVec.getElem_extractLsb', BitVec.getLsbD_append,
    BitVec.getLsbD_extractLsb']
  interval_cases i <;> first | rfl | simp

@[simp] theorem Fld.rs1_encS (op : BitVec 7) (f3 : BitVec 3) (rs1 rs2 : RegIx) (imm : BitVec 12) :
    Fld.rs1 (encS op f3 rs1 rs2 imm) = rs1 := by
  unfold Fld.rs1 encS
  ext i hi
  simp only [BitVec.getElem_append, BitVec.getElem_extractLsb', BitVec.getLsbD_append,
    BitVec.getLsbD_extractLsb']
  interval_cases i <;> first | rfl | simp

@[simp] theorem Fld.rs2_encS (op : BitVec 7) (f3 : BitVec 3) (rs1 rs2 : RegIx) (imm : BitVec 12) :
    Fld.rs2 (encS op f3 rs1 rs2 imm) = rs2 := by
  unfold Fld.rs2 encS
  ext i hi
  simp only [BitVec.getElem_append, BitVec.getElem_extractLsb', BitVec.getLsbD_append,
    BitVec.getLsbD_extractLsb']
  interval_cases i <;> first | rfl | simp

@[simp] theorem Fld.immS_encS (op : BitVec 7) (f3 : BitVec 3) (rs1 rs2 : RegIx) (imm : BitVec 12) :
    Fld.immS (encS op f3 rs1 rs2 imm) = imm := by
  unfold Fld.immS encS
  ext i hi
  simp only [BitVec.getElem_append, BitVec.getElem_extractLsb', BitVec.getLsbD_append,
    BitVec.getLsbD_extractLsb']
  interval_cases i <;> first | rfl | simp

@[simp] theorem Fld.opcode_encB (op : BitVec 7) (f3 : BitVec 3) (rs1 rs2 : RegIx) (off : BitVec 12) :
    Fld.opcode (encB op f3 rs1 rs2 off) = op := by
  unfold Fld.opcode encB
  ext i hi
  simp only [BitVec.getElem_append, BitVec.getElem_extractLsb', BitVec.getLsbD_append,
    BitVec.getLsbD_extractLsb']
  interval_cases i <;> first | rfl | simp

@[simp] theorem Fld.funct3_encB (op : BitVec 7) (f3 : BitVec 3) (rs1 rs2 : RegIx) (off : BitVec 12) :
    Fld.funct3 (encB op f3 rs1 rs2 off) = f3 := by
  unfold Fld.funct3 encB
  ext i hi
  simp only [BitVec.getElem_append, BitVec.getElem_extractLsb', BitVec.getLsbD_append,
    BitVec.getLsbD_extractLsb']
  interval_cases i <;> first | rfl | simp

@[simp] theorem Fld.rs1_encB (op : BitVec 7) (f3 : BitVec 3) (rs1 rs2 : RegIx) (off : BitVec 12) :
    Fld.rs1 (encB op f3 rs1 rs2 off) = rs1 := by
  unfold Fld.rs1 encB
  ext i hi
  simp only [BitVec.getElem_append, BitVec.getElem_extractLsb', BitVec.getLsbD_append,
    BitVec.getLsbD_extractLsb']
  interval_cases i <;> first | rfl | simp

@[simp] theorem Fld.rs2_encB (op : BitVec 7) (f3 : BitVec 3) (rs1 rs2 : RegIx) (off : BitVec 12) :
    Fld.rs2 (encB op f3 rs1 rs2 off) = rs2 := by
  unfold Fld.rs2 encB
  ext i hi
  simp only [BitVec.getElem_append, BitVec.getElem_extractLsb', BitVec.getLsbD_append,
    BitVec.getLsbD_extractLsb']
  interval_cases i <;> first | rfl | simp

@[simp] theorem Fld.offB_encB (op : BitVec 7) (f3 : BitVec 3) (rs1 rs2 : RegIx) (off : BitVec 12) :
    Fld.offB (encB op f3 rs1 rs2 off) = off := by
  unfold Fld.offB encB
  ext i hi
  simp only [BitVec.getElem_append, BitVec.getElem_extractLsb', BitVec.getLsbD_append,
    BitVec.getLsbD_extractLsb']
  interval_cases i <;> first | rfl | simp

@[simp] theorem Fld.opcode_encU (op : BitVec 7) (rd : RegIx) (imm : BitVec 20) :
    Fld.opcode (encU op rd imm) = op := by
  unfold Fld.opcode encU
  ext i hi
  simp only [BitVec.getElem_append, BitVec.getElem_extractLsb', BitVec.getLsbD_append,
    BitVec.getLsbD_extractLsb']
  interval_cases i <;> first | rfl | simp

@[simp] theorem Fld.rd_encU (op : BitVec 7) (rd : RegIx) (imm : BitVec 20) :
    Fld.rd (encU op rd imm) = rd := by
  unfold Fld.rd encU
  ext i hi
  simp only [BitVec.getElem_append, BitVec.getElem_extractLsb', BitVec.getLsbD_append,
    BitVec.getLsbD_extractLsb']
  interval_cases i <;> first | rfl | simp

@[simp] theorem Fld.immU_encU (op : BitVec 7) (rd : RegIx) (imm : BitVec 20) :
    Fld.immU (encU op rd imm) = imm := by
  unfold Fld.immU encU
  ext i hi
  simp only [BitVec.getElem_append, BitVec.getElem_extractLsb', BitVec.getLsbD_append,
    BitVec.getLsbD_extractLsb']
  interval_cases i <;> first | rfl | simp

@[simp] theorem Fld.opcode_encJ (op : BitVec 7) (rd : RegIx) (off : BitVec 20) :
    Fld.opcode (encJ op rd off) = op := by
  unfold Fld.opcode encJ
  ext i hi
  simp only [BitVec.getElem_append, BitVec.getElem_extractLsb', BitVec.getLsbD_append,
    BitVec.getLsbD_extractLsb']
  interval_cases i <;> first | rfl | simp

@[simp] theorem Fld.rd_encJ (op : BitVec 7) (rd : RegIx) (off : BitVec 20) :
    Fld.rd (encJ op rd off) = rd := by
  unfold Fld.rd encJ
  ext i hi
  simp only [BitVec.getElem_append, BitVec.getElem_extractLsb', BitVec.getLsbD_append,
    BitVec.getLsbD_extractLsb']
  interval_cases i <;> first | rfl | simp

@[simp] theorem Fld.offJ_encJ (op : BitVec 7) (rd : RegIx) (off : BitVec 20) :
    Fld.offJ (encJ op rd off) = off := by
  unfold Fld.offJ encJ
  ext i hi
  simp only [BitVec.getElem_append, BitVec.getElem_extractLsb', BitVec.getLsbD_append,
    BitVec.getLsbD_extractLsb']
  interval_cases i <;> first | rfl | simp

@[simp] theorem Fld.opcode_encFence (fm pred succ : BitVec 4) (rs1 rd : RegIx) :
    Fld.opcode (encFence fm pred succ rs1 rd) = 0x0F#7 := by
  unfold Fld.opcode encFence
  ext i hi
  simp only [BitVec.getElem_append, BitVec.getElem_extractLsb', BitVec.getLsbD_append,
    BitVec.getLsbD_extractLsb']
  interval_cases i <;> first | rfl | simp

@[simp] theorem Fld.rd_encFence (fm pred succ : BitVec 4) (rs1 rd : RegIx) :
    Fld.rd (encFence fm pred succ rs1 rd) = rd := by
  unfold Fld.rd encFence
  ext i hi
  simp only [BitVec.getElem_append, BitVec.getElem_extractLsb', BitVec.getLsbD_append,
    BitVec.getLsbD_extractLsb']
  interval_cases i <;> first | rfl | simp

@[simp] theorem Fld.funct3_encFence (fm pred succ : BitVec 4) (rs1 rd : RegIx) :
    Fld.funct3 (encFence fm pred succ rs1 rd) = 0#3 := by
  unfold Fld.funct3 encFence
  ext i hi
  simp only [BitVec.getElem_append, BitVec.getElem_extractLsb', BitVec.getLsbD_append,
    BitVec.getLsbD_extractLsb']
  interval_cases i <;> first | rfl | simp

@[simp] theorem Fld.rs1_encFence (fm pred succ : BitVec 4) (rs1 rd : RegIx) :
    Fld.rs1 (encFence fm pred succ rs1 rd) = rs1 := by
  unfold Fld.rs1 encFence
  ext i hi
  simp only [BitVec.getElem_append, BitVec.getElem_extractLsb', BitVec.getLsbD_append,
    BitVec.getLsbD_extractLsb']
  interval_cases i <;> first | rfl | simp

@[simp] theorem Fld.fm_encFence (fm pred succ : BitVec 4) (rs1 rd : RegIx) :
    Fld.fm (encFence fm pred succ rs1 rd) = fm := by
  unfold Fld.fm encFence
  ext i hi
  simp only [BitVec.getElem_append, BitVec.getElem_extractLsb', BitVec.getLsbD_append,
    BitVec.getLsbD_extractLsb']
  interval_cases i <;> first | rfl | simp

@[simp] theorem Fld.pred_encFence (fm pred succ : BitVec 4) (rs1 rd : RegIx) :
    Fld.pred (encFence fm pred succ rs1 rd) = pred := by
  unfold Fld.pred encFence
  ext i hi
  simp only [BitVec.getElem_append, BitVec.getElem_extractLsb', BitVec.getLsbD_append,
    BitVec.getLsbD_extractLsb']
  interval_cases i <;> first | rfl | simp

@[simp] theorem Fld.succ_encFence (fm pred succ : BitVec 4) (rs1 rd : RegIx) :
    Fld.succ (encFence fm pred succ rs1 rd) = succ := by
  unfold Fld.succ encFence
  ext i hi
  simp only [BitVec.getElem_append, BitVec.getElem_extractLsb', BitVec.getLsbD_append,
    BitVec.getLsbD_extractLsb']
  interval_cases i <;> first | rfl | simp

/-! ## The compressed formats (40_compressed R120) -/

@[simp] theorem CFld.quadrant_encCiw (rd : CRegIx) (imm : BitVec 8) :
    CFld.quadrant (encCiw rd imm) = 0#2 := by
  unfold CFld.quadrant encCiw
  ext i hi
  simp only [BitVec.getElem_append, BitVec.getElem_extractLsb', BitVec.getLsbD_append,
    BitVec.getLsbD_extractLsb']
  interval_cases i <;> first | rfl | simp

@[simp] theorem CFld.funct3_encCiw (rd : CRegIx) (imm : BitVec 8) :
    CFld.funct3 (encCiw rd imm) = 0#3 := by
  unfold CFld.funct3 encCiw
  ext i hi
  simp only [BitVec.getElem_append, BitVec.getElem_extractLsb', BitVec.getLsbD_append,
    BitVec.getLsbD_extractLsb']
  interval_cases i <;> first | rfl | simp

@[simp] theorem CFld.rdp_encCiw (rd : CRegIx) (imm : BitVec 8) :
    CFld.rdp (encCiw rd imm) = rd := by
  unfold CFld.rdp encCiw
  ext i hi
  simp only [BitVec.getElem_append, BitVec.getElem_extractLsb', BitVec.getLsbD_append,
    BitVec.getLsbD_extractLsb']
  interval_cases i <;> first | rfl | simp

@[simp] theorem CFld.immAddi4spn_encCiw (rd : CRegIx) (imm : BitVec 8) :
    CFld.immAddi4spn (encCiw rd imm) = imm := by
  unfold CFld.immAddi4spn encCiw
  ext i hi
  simp only [BitVec.getElem_append, BitVec.getElem_extractLsb', BitVec.getLsbD_append,
    BitVec.getLsbD_extractLsb']
  interval_cases i <;> first | rfl | simp

@[simp] theorem CFld.quadrant_encClD (f3 : BitVec 3) (r rs1 : CRegIx) (imm : BitVec 5) :
    CFld.quadrant (encClD f3 r rs1 imm) = 0#2 := by
  unfold CFld.quadrant encClD
  ext i hi
  simp only [BitVec.getElem_append, BitVec.getElem_extractLsb', BitVec.getLsbD_append,
    BitVec.getLsbD_extractLsb']
  interval_cases i <;> first | rfl | simp

@[simp] theorem CFld.funct3_encClD (f3 : BitVec 3) (r rs1 : CRegIx) (imm : BitVec 5) :
    CFld.funct3 (encClD f3 r rs1 imm) = f3 := by
  unfold CFld.funct3 encClD
  ext i hi
  simp only [BitVec.getElem_append, BitVec.getElem_extractLsb', BitVec.getLsbD_append,
    BitVec.getLsbD_extractLsb']
  interval_cases i <;> first | rfl | simp

@[simp] theorem CFld.rdp_encClD (f3 : BitVec 3) (r rs1 : CRegIx) (imm : BitVec 5) :
    CFld.rdp (encClD f3 r rs1 imm) = r := by
  unfold CFld.rdp encClD
  ext i hi
  simp only [BitVec.getElem_append, BitVec.getElem_extractLsb', BitVec.getLsbD_append,
    BitVec.getLsbD_extractLsb']
  interval_cases i <;> first | rfl | simp

@[simp] theorem CFld.rs1p_encClD (f3 : BitVec 3) (r rs1 : CRegIx) (imm : BitVec 5) :
    CFld.rs1p (encClD f3 r rs1 imm) = rs1 := by
  unfold CFld.rs1p encClD
  ext i hi
  simp only [BitVec.getElem_append, BitVec.getElem_extractLsb', BitVec.getLsbD_append,
    BitVec.getLsbD_extractLsb']
  interval_cases i <;> first | rfl | simp

@[simp] theorem CFld.uimmD_encClD (f3 : BitVec 3) (r rs1 : CRegIx) (imm : BitVec 5) :
    CFld.uimmD (encClD f3 r rs1 imm) = imm := by
  unfold CFld.uimmD encClD
  ext i hi
  simp only [BitVec.getElem_append, BitVec.getElem_extractLsb', BitVec.getLsbD_append,
    BitVec.getLsbD_extractLsb']
  interval_cases i <;> first | rfl | simp

@[simp] theorem CFld.quadrant_encClW (f3 : BitVec 3) (r rs1 : CRegIx) (imm : BitVec 5) :
    CFld.quadrant (encClW f3 r rs1 imm) = 0#2 := by
  unfold CFld.quadrant encClW
  ext i hi
  simp only [BitVec.getElem_append, BitVec.getElem_extractLsb', BitVec.getLsbD_append,
    BitVec.getLsbD_extractLsb']
  interval_cases i <;> first | rfl | simp

@[simp] theorem CFld.funct3_encClW (f3 : BitVec 3) (r rs1 : CRegIx) (imm : BitVec 5) :
    CFld.funct3 (encClW f3 r rs1 imm) = f3 := by
  unfold CFld.funct3 encClW
  ext i hi
  simp only [BitVec.getElem_append, BitVec.getElem_extractLsb', BitVec.getLsbD_append,
    BitVec.getLsbD_extractLsb']
  interval_cases i <;> first | rfl | simp

@[simp] theorem CFld.rdp_encClW (f3 : BitVec 3) (r rs1 : CRegIx) (imm : BitVec 5) :
    CFld.rdp (encClW f3 r rs1 imm) = r := by
  unfold CFld.rdp encClW
  ext i hi
  simp only [BitVec.getElem_append, BitVec.getElem_extractLsb', BitVec.getLsbD_append,
    BitVec.getLsbD_extractLsb']
  interval_cases i <;> first | rfl | simp

@[simp] theorem CFld.rs1p_encClW (f3 : BitVec 3) (r rs1 : CRegIx) (imm : BitVec 5) :
    CFld.rs1p (encClW f3 r rs1 imm) = rs1 := by
  unfold CFld.rs1p encClW
  ext i hi
  simp only [BitVec.getElem_append, BitVec.getElem_extractLsb', BitVec.getLsbD_append,
    BitVec.getLsbD_extractLsb']
  interval_cases i <;> first | rfl | simp

@[simp] theorem CFld.uimmW_encClW (f3 : BitVec 3) (r rs1 : CRegIx) (imm : BitVec 5) :
    CFld.uimmW (encClW f3 r rs1 imm) = imm := by
  unfold CFld.uimmW encClW
  ext i hi
  simp only [BitVec.getElem_append, BitVec.getElem_extractLsb', BitVec.getLsbD_append,
    BitVec.getLsbD_extractLsb']
  interval_cases i <;> first | rfl | simp

@[simp] theorem CFld.quadrant_encCi (f3 : BitVec 3) (q : BitVec 2) (rd : RegIx) (imm : BitVec 6) :
    CFld.quadrant (encCi f3 q rd imm) = q := by
  unfold CFld.quadrant encCi
  ext i hi
  simp only [BitVec.getElem_append, BitVec.getElem_extractLsb', BitVec.getLsbD_append,
    BitVec.getLsbD_extractLsb']
  interval_cases i <;> first | rfl | simp

@[simp] theorem CFld.funct3_encCi (f3 : BitVec 3) (q : BitVec 2) (rd : RegIx) (imm : BitVec 6) :
    CFld.funct3 (encCi f3 q rd imm) = f3 := by
  unfold CFld.funct3 encCi
  ext i hi
  simp only [BitVec.getElem_append, BitVec.getElem_extractLsb', BitVec.getLsbD_append,
    BitVec.getLsbD_extractLsb']
  interval_cases i <;> first | rfl | simp

@[simp] theorem CFld.rd_encCi (f3 : BitVec 3) (q : BitVec 2) (rd : RegIx) (imm : BitVec 6) :
    CFld.rd (encCi f3 q rd imm) = rd := by
  unfold CFld.rd encCi
  ext i hi
  simp only [BitVec.getElem_append, BitVec.getElem_extractLsb', BitVec.getLsbD_append,
    BitVec.getLsbD_extractLsb']
  interval_cases i <;> first | rfl | simp

@[simp] theorem CFld.imm6_encCi (f3 : BitVec 3) (q : BitVec 2) (rd : RegIx) (imm : BitVec 6) :
    CFld.imm6 (encCi f3 q rd imm) = imm := by
  unfold CFld.imm6 encCi
  ext i hi
  simp only [BitVec.getElem_append, BitVec.getElem_extractLsb', BitVec.getLsbD_append,
    BitVec.getLsbD_extractLsb']
  interval_cases i <;> first | rfl | simp

@[simp] theorem CFld.bit12_encCi (f3 : BitVec 3) (q : BitVec 2) (rd : RegIx) (imm : BitVec 6) :
    CFld.bit12 (encCi f3 q rd imm) = imm.extractLsb' 5 1 := by
  unfold CFld.bit12 encCi
  ext i hi
  simp only [BitVec.getElem_append, BitVec.getElem_extractLsb', BitVec.getLsbD_append,
    BitVec.getLsbD_extractLsb']
  interval_cases i <;> first | rfl | simp

@[simp] theorem CFld.quadrant_encCi16sp (imm : BitVec 6) :
    CFld.quadrant (encCi16sp imm) = 1#2 := by
  unfold CFld.quadrant encCi16sp
  ext i hi
  simp only [BitVec.getElem_append, BitVec.getElem_extractLsb', BitVec.getLsbD_append,
    BitVec.getLsbD_extractLsb']
  interval_cases i <;> first | rfl | simp

@[simp] theorem CFld.funct3_encCi16sp (imm : BitVec 6) :
    CFld.funct3 (encCi16sp imm) = 3#3 := by
  unfold CFld.funct3 encCi16sp
  ext i hi
  simp only [BitVec.getElem_append, BitVec.getElem_extractLsb', BitVec.getLsbD_append,
    BitVec.getLsbD_extractLsb']
  interval_cases i <;> first | rfl | simp

@[simp] theorem CFld.rd_encCi16sp (imm : BitVec 6) :
    CFld.rd (encCi16sp imm) = 2#5 := by
  unfold CFld.rd encCi16sp
  ext i hi
  simp only [BitVec.getElem_append, BitVec.getElem_extractLsb', BitVec.getLsbD_append,
    BitVec.getLsbD_extractLsb']
  interval_cases i <;> first | rfl | simp

@[simp] theorem CFld.immAddi16sp_encCi16sp (imm : BitVec 6) :
    CFld.immAddi16sp (encCi16sp imm) = imm := by
  unfold CFld.immAddi16sp encCi16sp
  ext i hi
  simp only [BitVec.getElem_append, BitVec.getElem_extractLsb', BitVec.getLsbD_append,
    BitVec.getLsbD_extractLsb']
  interval_cases i <;> first | rfl | simp

@[simp] theorem CFld.quadrant_encCj (f3 : BitVec 3) (off : BitVec 11) :
    CFld.quadrant (encCj f3 off) = 1#2 := by
  unfold CFld.quadrant encCj
  ext i hi
  simp only [BitVec.getElem_append, BitVec.getElem_extractLsb', BitVec.getLsbD_append,
    BitVec.getLsbD_extractLsb']
  interval_cases i <;> first | rfl | simp

@[simp] theorem CFld.funct3_encCj (f3 : BitVec 3) (off : BitVec 11) :
    CFld.funct3 (encCj f3 off) = f3 := by
  unfold CFld.funct3 encCj
  ext i hi
  simp only [BitVec.getElem_append, BitVec.getElem_extractLsb', BitVec.getLsbD_append,
    BitVec.getLsbD_extractLsb']
  interval_cases i <;> first | rfl | simp

@[simp] theorem CFld.offJ_encCj (f3 : BitVec 3) (off : BitVec 11) :
    CFld.offJ (encCj f3 off) = off := by
  unfold CFld.offJ encCj
  ext i hi
  simp only [BitVec.getElem_append, BitVec.getElem_extractLsb', BitVec.getLsbD_append,
    BitVec.getLsbD_extractLsb']
  interval_cases i <;> first | rfl | simp

@[simp] theorem CFld.quadrant_encCbAlu (f2 : BitVec 2) (rd : CRegIx) (imm : BitVec 6) :
    CFld.quadrant (encCbAlu f2 rd imm) = 1#2 := by
  unfold CFld.quadrant encCbAlu
  ext i hi
  simp only [BitVec.getElem_append, BitVec.getElem_extractLsb', BitVec.getLsbD_append,
    BitVec.getLsbD_extractLsb']
  interval_cases i <;> first | rfl | simp

@[simp] theorem CFld.funct3_encCbAlu (f2 : BitVec 2) (rd : CRegIx) (imm : BitVec 6) :
    CFld.funct3 (encCbAlu f2 rd imm) = 4#3 := by
  unfold CFld.funct3 encCbAlu
  ext i hi
  simp only [BitVec.getElem_append, BitVec.getElem_extractLsb', BitVec.getLsbD_append,
    BitVec.getLsbD_extractLsb']
  interval_cases i <;> first | rfl | simp

@[simp] theorem CFld.rs1p_encCbAlu (f2 : BitVec 2) (rd : CRegIx) (imm : BitVec 6) :
    CFld.rs1p (encCbAlu f2 rd imm) = rd := by
  unfold CFld.rs1p encCbAlu
  ext i hi
  simp only [BitVec.getElem_append, BitVec.getElem_extractLsb', BitVec.getLsbD_append,
    BitVec.getLsbD_extractLsb']
  interval_cases i <;> first | rfl | simp

@[simp] theorem CFld.imm6_encCbAlu (f2 : BitVec 2) (rd : CRegIx) (imm : BitVec 6) :
    CFld.imm6 (encCbAlu f2 rd imm) = imm := by
  unfold CFld.imm6 encCbAlu
  ext i hi
  simp only [BitVec.getElem_append, BitVec.getElem_extractLsb', BitVec.getLsbD_append,
    BitVec.getLsbD_extractLsb']
  interval_cases i <;> first | rfl | simp

@[simp] theorem CFld.bit12_encCbAlu (f2 : BitVec 2) (rd : CRegIx) (imm : BitVec 6) :
    CFld.bit12 (encCbAlu f2 rd imm) = imm.extractLsb' 5 1 := by
  unfold CFld.bit12 encCbAlu
  ext i hi
  simp only [BitVec.getElem_append, BitVec.getElem_extractLsb', BitVec.getLsbD_append,
    BitVec.getLsbD_extractLsb']
  interval_cases i <;> first | rfl | simp

@[simp] theorem encCbAlu_bits10_2 (f2 : BitVec 2) (rd : CRegIx) (imm : BitVec 6) :
    (encCbAlu f2 rd imm).extractLsb' 10 2 = f2 := by
  unfold encCbAlu
  ext i hi
  simp only [BitVec.getElem_append, BitVec.getElem_extractLsb', BitVec.getLsbD_append,
    BitVec.getLsbD_extractLsb']
  interval_cases i <;> first | rfl | simp

@[simp] theorem CFld.quadrant_encCa (f6 : BitVec 6) (f2 : BitVec 2) (rd rs2 : CRegIx) :
    CFld.quadrant (encCa f6 f2 rd rs2) = 1#2 := by
  unfold CFld.quadrant encCa
  ext i hi
  simp only [BitVec.getElem_append, BitVec.getElem_extractLsb', BitVec.getLsbD_append,
    BitVec.getLsbD_extractLsb']
  interval_cases i <;> first | rfl | simp

@[simp] theorem CFld.funct3_encCa (f6 : BitVec 6) (f2 : BitVec 2) (rd rs2 : CRegIx) :
    CFld.funct3 (encCa f6 f2 rd rs2) = f6.extractLsb' 3 3 := by
  unfold CFld.funct3 encCa
  ext i hi
  simp only [BitVec.getElem_append, BitVec.getElem_extractLsb', BitVec.getLsbD_append,
    BitVec.getLsbD_extractLsb']
  interval_cases i <;> first | rfl | simp

@[simp] theorem CFld.bit12_encCa (f6 : BitVec 6) (f2 : BitVec 2) (rd rs2 : CRegIx) :
    CFld.bit12 (encCa f6 f2 rd rs2) = f6.extractLsb' 2 1 := by
  unfold CFld.bit12 encCa
  ext i hi
  simp only [BitVec.getElem_append, BitVec.getElem_extractLsb', BitVec.getLsbD_append,
    BitVec.getLsbD_extractLsb']
  interval_cases i <;> first | rfl | simp

@[simp] theorem encCa_bits10_2 (f6 : BitVec 6) (f2 : BitVec 2) (rd rs2 : CRegIx) :
    (encCa f6 f2 rd rs2).extractLsb' 10 2 = f6.extractLsb' 0 2 := by
  unfold encCa
  ext i hi
  simp only [BitVec.getElem_append, BitVec.getElem_extractLsb', BitVec.getLsbD_append,
    BitVec.getLsbD_extractLsb']
  interval_cases i <;> first | rfl | simp

@[simp] theorem CFld.rs1p_encCa (f6 : BitVec 6) (f2 : BitVec 2) (rd rs2 : CRegIx) :
    CFld.rs1p (encCa f6 f2 rd rs2) = rd := by
  unfold CFld.rs1p encCa
  ext i hi
  simp only [BitVec.getElem_append, BitVec.getElem_extractLsb', BitVec.getLsbD_append,
    BitVec.getLsbD_extractLsb']
  interval_cases i <;> first | rfl | simp

@[simp] theorem CFld.rdp_encCa (f6 : BitVec 6) (f2 : BitVec 2) (rd rs2 : CRegIx) :
    CFld.rdp (encCa f6 f2 rd rs2) = rs2 := by
  unfold CFld.rdp encCa
  ext i hi
  simp only [BitVec.getElem_append, BitVec.getElem_extractLsb', BitVec.getLsbD_append,
    BitVec.getLsbD_extractLsb']
  interval_cases i <;> first | rfl | simp

@[simp] theorem encCa_bits5_2 (f6 : BitVec 6) (f2 : BitVec 2) (rd rs2 : CRegIx) :
    (encCa f6 f2 rd rs2).extractLsb' 5 2 = f2 := by
  unfold encCa
  ext i hi
  simp only [BitVec.getElem_append, BitVec.getElem_extractLsb', BitVec.getLsbD_append,
    BitVec.getLsbD_extractLsb']
  interval_cases i <;> first | rfl | simp

@[simp] theorem CFld.quadrant_encCb (f3 : BitVec 3) (rs1 : CRegIx) (off : BitVec 8) :
    CFld.quadrant (encCb f3 rs1 off) = 1#2 := by
  unfold CFld.quadrant encCb
  ext i hi
  simp only [BitVec.getElem_append, BitVec.getElem_extractLsb', BitVec.getLsbD_append,
    BitVec.getLsbD_extractLsb']
  interval_cases i <;> first | rfl | simp

@[simp] theorem CFld.funct3_encCb (f3 : BitVec 3) (rs1 : CRegIx) (off : BitVec 8) :
    CFld.funct3 (encCb f3 rs1 off) = f3 := by
  unfold CFld.funct3 encCb
  ext i hi
  simp only [BitVec.getElem_append, BitVec.getElem_extractLsb', BitVec.getLsbD_append,
    BitVec.getLsbD_extractLsb']
  interval_cases i <;> first | rfl | simp

@[simp] theorem CFld.rs1p_encCb (f3 : BitVec 3) (rs1 : CRegIx) (off : BitVec 8) :
    CFld.rs1p (encCb f3 rs1 off) = rs1 := by
  unfold CFld.rs1p encCb
  ext i hi
  simp only [BitVec.getElem_append, BitVec.getElem_extractLsb', BitVec.getLsbD_append,
    BitVec.getLsbD_extractLsb']
  interval_cases i <;> first | rfl | simp

@[simp] theorem CFld.offB_encCb (f3 : BitVec 3) (rs1 : CRegIx) (off : BitVec 8) :
    CFld.offB (encCb f3 rs1 off) = off := by
  unfold CFld.offB encCb
  ext i hi
  simp only [BitVec.getElem_append, BitVec.getElem_extractLsb', BitVec.getLsbD_append,
    BitVec.getLsbD_extractLsb']
  interval_cases i <;> first | rfl | simp

@[simp] theorem CFld.quadrant_encCiD (f3 : BitVec 3) (rd : RegIx) (imm : BitVec 6) :
    CFld.quadrant (encCiD f3 rd imm) = 2#2 := by
  unfold CFld.quadrant encCiD
  ext i hi
  simp only [BitVec.getElem_append, BitVec.getElem_extractLsb', BitVec.getLsbD_append,
    BitVec.getLsbD_extractLsb']
  interval_cases i <;> first | rfl | simp

@[simp] theorem CFld.funct3_encCiD (f3 : BitVec 3) (rd : RegIx) (imm : BitVec 6) :
    CFld.funct3 (encCiD f3 rd imm) = f3 := by
  unfold CFld.funct3 encCiD
  ext i hi
  simp only [BitVec.getElem_append, BitVec.getElem_extractLsb', BitVec.getLsbD_append,
    BitVec.getLsbD_extractLsb']
  interval_cases i <;> first | rfl | simp

@[simp] theorem CFld.rd_encCiD (f3 : BitVec 3) (rd : RegIx) (imm : BitVec 6) :
    CFld.rd (encCiD f3 rd imm) = rd := by
  unfold CFld.rd encCiD
  ext i hi
  simp only [BitVec.getElem_append, BitVec.getElem_extractLsb', BitVec.getLsbD_append,
    BitVec.getLsbD_extractLsb']
  interval_cases i <;> first | rfl | simp

@[simp] theorem CFld.uimmLdsp_encCiD (f3 : BitVec 3) (rd : RegIx) (imm : BitVec 6) :
    CFld.uimmLdsp (encCiD f3 rd imm) = imm := by
  unfold CFld.uimmLdsp encCiD
  ext i hi
  simp only [BitVec.getElem_append, BitVec.getElem_extractLsb', BitVec.getLsbD_append,
    BitVec.getLsbD_extractLsb']
  interval_cases i <;> first | rfl | simp

@[simp] theorem CFld.quadrant_encCiW (f3 : BitVec 3) (rd : RegIx) (imm : BitVec 6) :
    CFld.quadrant (encCiW f3 rd imm) = 2#2 := by
  unfold CFld.quadrant encCiW
  ext i hi
  simp only [BitVec.getElem_append, BitVec.getElem_extractLsb', BitVec.getLsbD_append,
    BitVec.getLsbD_extractLsb']
  interval_cases i <;> first | rfl | simp

@[simp] theorem CFld.funct3_encCiW (f3 : BitVec 3) (rd : RegIx) (imm : BitVec 6) :
    CFld.funct3 (encCiW f3 rd imm) = f3 := by
  unfold CFld.funct3 encCiW
  ext i hi
  simp only [BitVec.getElem_append, BitVec.getElem_extractLsb', BitVec.getLsbD_append,
    BitVec.getLsbD_extractLsb']
  interval_cases i <;> first | rfl | simp

@[simp] theorem CFld.rd_encCiW (f3 : BitVec 3) (rd : RegIx) (imm : BitVec 6) :
    CFld.rd (encCiW f3 rd imm) = rd := by
  unfold CFld.rd encCiW
  ext i hi
  simp only [BitVec.getElem_append, BitVec.getElem_extractLsb', BitVec.getLsbD_append,
    BitVec.getLsbD_extractLsb']
  interval_cases i <;> first | rfl | simp

@[simp] theorem CFld.uimmLwsp_encCiW (f3 : BitVec 3) (rd : RegIx) (imm : BitVec 6) :
    CFld.uimmLwsp (encCiW f3 rd imm) = imm := by
  unfold CFld.uimmLwsp encCiW
  ext i hi
  simp only [BitVec.getElem_append, BitVec.getElem_extractLsb', BitVec.getLsbD_append,
    BitVec.getLsbD_extractLsb']
  interval_cases i <;> first | rfl | simp

@[simp] theorem CFld.quadrant_encCr (f4 : BitVec 4) (rd rs2 : RegIx) :
    CFld.quadrant (encCr f4 rd rs2) = 2#2 := by
  unfold CFld.quadrant encCr
  ext i hi
  simp only [BitVec.getElem_append, BitVec.getElem_extractLsb', BitVec.getLsbD_append,
    BitVec.getLsbD_extractLsb']
  interval_cases i <;> first | rfl | simp

@[simp] theorem CFld.funct3_encCr (f4 : BitVec 4) (rd rs2 : RegIx) :
    CFld.funct3 (encCr f4 rd rs2) = f4.extractLsb' 1 3 := by
  unfold CFld.funct3 encCr
  ext i hi
  simp only [BitVec.getElem_append, BitVec.getElem_extractLsb', BitVec.getLsbD_append,
    BitVec.getLsbD_extractLsb']
  interval_cases i <;> first | rfl | simp

@[simp] theorem CFld.bit12_encCr (f4 : BitVec 4) (rd rs2 : RegIx) :
    CFld.bit12 (encCr f4 rd rs2) = f4.extractLsb' 0 1 := by
  unfold CFld.bit12 encCr
  ext i hi
  simp only [BitVec.getElem_append, BitVec.getElem_extractLsb', BitVec.getLsbD_append,
    BitVec.getLsbD_extractLsb']
  interval_cases i <;> first | rfl | simp

@[simp] theorem CFld.rd_encCr (f4 : BitVec 4) (rd rs2 : RegIx) :
    CFld.rd (encCr f4 rd rs2) = rd := by
  unfold CFld.rd encCr
  ext i hi
  simp only [BitVec.getElem_append, BitVec.getElem_extractLsb', BitVec.getLsbD_append,
    BitVec.getLsbD_extractLsb']
  interval_cases i <;> first | rfl | simp

@[simp] theorem CFld.rs2_encCr (f4 : BitVec 4) (rd rs2 : RegIx) :
    CFld.rs2 (encCr f4 rd rs2) = rs2 := by
  unfold CFld.rs2 encCr
  ext i hi
  simp only [BitVec.getElem_append, BitVec.getElem_extractLsb', BitVec.getLsbD_append,
    BitVec.getLsbD_extractLsb']
  interval_cases i <;> first | rfl | simp

@[simp] theorem CFld.quadrant_encCssD (f3 : BitVec 3) (rs2 : RegIx) (imm : BitVec 6) :
    CFld.quadrant (encCssD f3 rs2 imm) = 2#2 := by
  unfold CFld.quadrant encCssD
  ext i hi
  simp only [BitVec.getElem_append, BitVec.getElem_extractLsb', BitVec.getLsbD_append,
    BitVec.getLsbD_extractLsb']
  interval_cases i <;> first | rfl | simp

@[simp] theorem CFld.funct3_encCssD (f3 : BitVec 3) (rs2 : RegIx) (imm : BitVec 6) :
    CFld.funct3 (encCssD f3 rs2 imm) = f3 := by
  unfold CFld.funct3 encCssD
  ext i hi
  simp only [BitVec.getElem_append, BitVec.getElem_extractLsb', BitVec.getLsbD_append,
    BitVec.getLsbD_extractLsb']
  interval_cases i <;> first | rfl | simp

@[simp] theorem CFld.rs2_encCssD (f3 : BitVec 3) (rs2 : RegIx) (imm : BitVec 6) :
    CFld.rs2 (encCssD f3 rs2 imm) = rs2 := by
  unfold CFld.rs2 encCssD
  ext i hi
  simp only [BitVec.getElem_append, BitVec.getElem_extractLsb', BitVec.getLsbD_append,
    BitVec.getLsbD_extractLsb']
  interval_cases i <;> first | rfl | simp

@[simp] theorem CFld.uimmSdsp_encCssD (f3 : BitVec 3) (rs2 : RegIx) (imm : BitVec 6) :
    CFld.uimmSdsp (encCssD f3 rs2 imm) = imm := by
  unfold CFld.uimmSdsp encCssD
  ext i hi
  simp only [BitVec.getElem_append, BitVec.getElem_extractLsb', BitVec.getLsbD_append,
    BitVec.getLsbD_extractLsb']
  interval_cases i <;> first | rfl | simp

@[simp] theorem CFld.quadrant_encCssW (f3 : BitVec 3) (rs2 : RegIx) (imm : BitVec 6) :
    CFld.quadrant (encCssW f3 rs2 imm) = 2#2 := by
  unfold CFld.quadrant encCssW
  ext i hi
  simp only [BitVec.getElem_append, BitVec.getElem_extractLsb', BitVec.getLsbD_append,
    BitVec.getLsbD_extractLsb']
  interval_cases i <;> first | rfl | simp

@[simp] theorem CFld.funct3_encCssW (f3 : BitVec 3) (rs2 : RegIx) (imm : BitVec 6) :
    CFld.funct3 (encCssW f3 rs2 imm) = f3 := by
  unfold CFld.funct3 encCssW
  ext i hi
  simp only [BitVec.getElem_append, BitVec.getElem_extractLsb', BitVec.getLsbD_append,
    BitVec.getLsbD_extractLsb']
  interval_cases i <;> first | rfl | simp

@[simp] theorem CFld.rs2_encCssW (f3 : BitVec 3) (rs2 : RegIx) (imm : BitVec 6) :
    CFld.rs2 (encCssW f3 rs2 imm) = rs2 := by
  unfold CFld.rs2 encCssW
  ext i hi
  simp only [BitVec.getElem_append, BitVec.getElem_extractLsb', BitVec.getLsbD_append,
    BitVec.getLsbD_extractLsb']
  interval_cases i <;> first | rfl | simp

@[simp] theorem CFld.uimmSwsp_encCssW (f3 : BitVec 3) (rs2 : RegIx) (imm : BitVec 6) :
    CFld.uimmSwsp (encCssW f3 rs2 imm) = imm := by
  unfold CFld.uimmSwsp encCssW
  ext i hi
  simp only [BitVec.getElem_append, BitVec.getElem_extractLsb', BitVec.getLsbD_append,
    BitVec.getLsbD_extractLsb']
  interval_cases i <;> first | rfl | simp

theorem CFld.imm6_encCi16sp (imm : BitVec 6) : CFld.imm6 (encCi16sp imm) = 0 ↔ imm = 0 := by
  revert imm; decide

/-! ## The length of a word (30_encoding R71) -/

theorem isCompressed_eq_opcode (w : IWord) :
    isCompressed w = ((Fld.opcode w).extractLsb' 0 2 != 3#2) := by
  simp [isCompressed, Fld.opcode, BitVec.extractLsb'_extractLsb'_of_le]

theorem isCompressed_of_opcode {w : IWord} {op : BitVec 7} (h : Fld.opcode w = op)
    (h2 : op.extractLsb' 0 2 = 3#2) : isCompressed w = false := by
  rw [isCompressed_eq_opcode, h, h2]; rfl

@[simp] theorem extractLsb'_raw16 (c : CWord) : (raw16 c).extractLsb' 0 16 = c := by
  ext i hi
  have : i < 32 := by omega
  simp [raw16, this, BitVec.getLsbD_eq_getElem hi]

theorem isCompressed_raw16 (c : CWord) : isCompressed (raw16 c) = (CFld.quadrant c != 3#2) := by
  have : (raw16 c).extractLsb' 0 2 = CFld.quadrant c := by
    unfold raw16 CFld.quadrant; ext i hi; simp; omega
  simp [isCompressed, this]

theorem isCompressed_of_quadrant {c : CWord} {q : BitVec 2} (h : CFld.quadrant c = q)
    (h2 : (q != 3#2) = true) : isCompressed (raw16 c) = true := by
  rw [isCompressed_raw16, h, h2]

@[simp] theorem Rm.ofBits_bits (rm : Rm) : Rm.ofBits rm.bits = some rm := by cases rm <;> rfl

theorem Rm.bits_of_ofBits {b : BitVec 3} {rm : Rm} (h : Rm.ofBits b = some rm) : rm.bits = b := by
  revert h; cases rm <;> revert b <;> decide

/-! ## A word is its fields put back together -/

theorem encR_fields (w : IWord) :
    encR (Fld.opcode w) (Fld.funct3 w) (Fld.funct7 w) (Fld.rd w) (Fld.rs1 w) (Fld.rs2 w) = w := by
  unfold encR
  unfold Fld.funct3 Fld.funct7 Fld.opcode Fld.rd Fld.rs1 Fld.rs2
  apply BitVec.eq_of_getLsbD_eq; intro i hi
  simp only [BitVec.getLsbD_append, BitVec.getLsbD_extractLsb']
  interval_cases i <;> first | rfl | simp

theorem encR4_fields (w : IWord) (rm : Rm) (h0 : rm.bits = Fld.funct3 w) :
    encR4 (Fld.opcode w) (Fld.fmt w) (Fld.rd w) (Fld.rs1 w) (Fld.rs2 w) (Fld.rs3 w) rm = w := by
  unfold encR4
  rw [h0]
  unfold Fld.fmt Fld.opcode Fld.rd Fld.rs1 Fld.rs2 Fld.rs3 Fld.funct3
  apply BitVec.eq_of_getLsbD_eq; intro i hi
  simp only [BitVec.getLsbD_append, BitVec.getLsbD_extractLsb']
  interval_cases i <;> first | rfl | simp

theorem encAmo_fields (w : IWord) (h0 : Fld.opcode w = 0x2F#7) :
    encAmo (Fld.funct3 w) (Fld.funct5 w) (Fld.rd w) (Fld.rs1 w) (Fld.rs2 w) (Fld.aq w) (Fld.rl w) = w := by
  unfold encAmo
  rw [← h0]
  unfold Fld.aq Fld.funct3 Fld.funct5 Fld.opcode Fld.rd Fld.rl Fld.rs1 Fld.rs2
  apply BitVec.eq_of_getLsbD_eq; intro i hi
  simp only [BitVec.getLsbD_append, BitVec.getLsbD_extractLsb']
  interval_cases i <;> first | rfl | simp

theorem encI_fields (w : IWord) :
    encI (Fld.opcode w) (Fld.funct3 w) (Fld.rd w) (Fld.rs1 w) (Fld.immI w) = w := by
  unfold encI
  unfold Fld.funct3 Fld.immI Fld.opcode Fld.rd Fld.rs1
  apply BitVec.eq_of_getLsbD_eq; intro i hi
  simp only [BitVec.getLsbD_append, BitVec.getLsbD_extractLsb']
  interval_cases i <;> first | rfl | simp

theorem encSh_fields (w : IWord) (h0 : Fld.opcode w = 0x13#7) :
    encSh (Fld.funct3 w) (Fld.funct6 w) (Fld.rd w) (Fld.rs1 w) (Fld.shamt w) = w := by
  unfold encSh
  rw [← h0]
  unfold Fld.funct3 Fld.funct6 Fld.opcode Fld.rd Fld.rs1 Fld.shamt
  apply BitVec.eq_of_getLsbD_eq; intro i hi
  simp only [BitVec.getLsbD_append, BitVec.getLsbD_extractLsb']
  interval_cases i <;> first | rfl | simp

theorem encS_fields (w : IWord) :
    encS (Fld.opcode w) (Fld.funct3 w) (Fld.rs1 w) (Fld.rs2 w) (Fld.immS w) = w := by
  unfold encS
  unfold Fld.funct3 Fld.immS Fld.opcode Fld.rs1 Fld.rs2
  apply BitVec.eq_of_getLsbD_eq; intro i hi
  simp only [BitVec.getLsbD_append, BitVec.getLsbD_extractLsb']
  interval_cases i <;> first | rfl | simp

theorem encB_fields (w : IWord) :
    encB (Fld.opcode w) (Fld.funct3 w) (Fld.rs1 w) (Fld.rs2 w) (Fld.offB w) = w := by
  unfold encB
  unfold Fld.funct3 Fld.offB Fld.opcode Fld.rs1 Fld.rs2
  apply BitVec.eq_of_getLsbD_eq; intro i hi
  simp only [BitVec.getLsbD_append, BitVec.getLsbD_extractLsb']
  interval_cases i <;> first | rfl | simp

theorem encU_fields (w : IWord) :
    encU (Fld.opcode w) (Fld.rd w) (Fld.immU w) = w := by
  unfold encU
  unfold Fld.immU Fld.opcode Fld.rd
  apply BitVec.eq_of_getLsbD_eq; intro i hi
  simp only [BitVec.getLsbD_append, BitVec.getLsbD_extractLsb']
  interval_cases i <;> first | rfl | simp

theorem encJ_fields (w : IWord) :
    encJ (Fld.opcode w) (Fld.rd w) (Fld.offJ w) = w := by
  unfold encJ
  unfold Fld.offJ Fld.opcode Fld.rd
  apply BitVec.eq_of_getLsbD_eq; intro i hi
  simp only [BitVec.getLsbD_append, BitVec.getLsbD_extractLsb']
  interval_cases i <;> first | rfl | simp

theorem encFence_fields (w : IWord) (h0 : Fld.opcode w = 0x0F#7) (h1 : Fld.funct3 w = 0#3) :
    encFence (Fld.fm w) (Fld.pred w) (Fld.succ w) (Fld.rs1 w) (Fld.rd w) = w := by
  unfold encFence
  rw [← h0, ← h1]
  unfold Fld.fm Fld.funct3 Fld.opcode Fld.pred Fld.rd Fld.rs1 Fld.succ
  apply BitVec.eq_of_getLsbD_eq; intro i hi
  simp only [BitVec.getLsbD_append, BitVec.getLsbD_extractLsb']
  interval_cases i <;> first | rfl | simp

theorem encCiw_fields (c : CWord) (h0 : CFld.quadrant c = 0#2) (h1 : CFld.funct3 c = 0#3) :
    encCiw (CFld.rdp c) (CFld.immAddi4spn c) = c := by
  unfold encCiw
  rw [← h0, ← h1]
  unfold CFld.funct3 CFld.immAddi4spn CFld.quadrant CFld.rdp
  apply BitVec.eq_of_getLsbD_eq; intro i hi
  simp only [BitVec.getLsbD_append, BitVec.getLsbD_extractLsb']
  interval_cases i <;> first | rfl | simp

theorem encClD_fields (c : CWord) (h0 : CFld.quadrant c = 0#2) :
    encClD (CFld.funct3 c) (CFld.rdp c) (CFld.rs1p c) (CFld.uimmD c) = c := by
  unfold encClD
  rw [← h0]
  unfold CFld.funct3 CFld.quadrant CFld.rdp CFld.rs1p CFld.uimmD
  apply BitVec.eq_of_getLsbD_eq; intro i hi
  simp only [BitVec.getLsbD_append, BitVec.getLsbD_extractLsb']
  interval_cases i <;> first | rfl | simp

theorem encClW_fields (c : CWord) (h0 : CFld.quadrant c = 0#2) :
    encClW (CFld.funct3 c) (CFld.rdp c) (CFld.rs1p c) (CFld.uimmW c) = c := by
  unfold encClW
  rw [← h0]
  unfold CFld.funct3 CFld.quadrant CFld.rdp CFld.rs1p CFld.uimmW
  apply BitVec.eq_of_getLsbD_eq; intro i hi
  simp only [BitVec.getLsbD_append, BitVec.getLsbD_extractLsb']
  interval_cases i <;> first | rfl | simp

theorem encCi_fields (c : CWord) :
    encCi (CFld.funct3 c) (CFld.quadrant c) (CFld.rd c) (CFld.imm6 c) = c := by
  unfold encCi
  unfold CFld.funct3 CFld.imm6 CFld.quadrant CFld.rd
  apply BitVec.eq_of_getLsbD_eq; intro i hi
  simp only [BitVec.getLsbD_append, BitVec.getLsbD_extractLsb']
  interval_cases i <;> first | rfl | simp

theorem encCi16sp_fields (c : CWord) (h0 : CFld.quadrant c = 1#2) (h1 : CFld.funct3 c = 3#3) (h2 : CFld.rd c = 2#5) :
    encCi16sp (CFld.immAddi16sp c) = c := by
  unfold encCi16sp
  rw [← h0, ← h1, ← h2]
  unfold CFld.funct3 CFld.immAddi16sp CFld.quadrant CFld.rd
  apply BitVec.eq_of_getLsbD_eq; intro i hi
  simp only [BitVec.getLsbD_append, BitVec.getLsbD_extractLsb']
  interval_cases i <;> first | rfl | simp

theorem encCj_fields (c : CWord) (h0 : CFld.quadrant c = 1#2) :
    encCj (CFld.funct3 c) (CFld.offJ c) = c := by
  unfold encCj
  rw [← h0]
  unfold CFld.funct3 CFld.offJ CFld.quadrant
  apply BitVec.eq_of_getLsbD_eq; intro i hi
  simp only [BitVec.getLsbD_append, BitVec.getLsbD_extractLsb']
  interval_cases i <;> first | rfl | simp

theorem encCbAlu_fields (c : CWord) (h0 : CFld.quadrant c = 1#2) (h1 : CFld.funct3 c = 4#3) :
    encCbAlu (c.extractLsb' 10 2) (CFld.rs1p c) (CFld.imm6 c) = c := by
  unfold encCbAlu
  rw [← h0, ← h1]
  unfold CFld.funct3 CFld.imm6 CFld.quadrant CFld.rs1p
  apply BitVec.eq_of_getLsbD_eq; intro i hi
  simp only [BitVec.getLsbD_append, BitVec.getLsbD_extractLsb']
  interval_cases i <;> first | rfl | simp

theorem encCa_fields (c : CWord) (h0 : CFld.quadrant c = 1#2) :
    encCa (c.extractLsb' 10 6) (c.extractLsb' 5 2) (CFld.rs1p c) (CFld.rdp c) = c := by
  unfold encCa
  rw [← h0]
  unfold CFld.quadrant CFld.rdp CFld.rs1p
  apply BitVec.eq_of_getLsbD_eq; intro i hi
  simp only [BitVec.getLsbD_append, BitVec.getLsbD_extractLsb']
  interval_cases i <;> first | rfl | simp

theorem encCb_fields (c : CWord) (h0 : CFld.quadrant c = 1#2) :
    encCb (CFld.funct3 c) (CFld.rs1p c) (CFld.offB c) = c := by
  unfold encCb
  rw [← h0]
  unfold CFld.funct3 CFld.offB CFld.quadrant CFld.rs1p
  apply BitVec.eq_of_getLsbD_eq; intro i hi
  simp only [BitVec.getLsbD_append, BitVec.getLsbD_extractLsb']
  interval_cases i <;> first | rfl | simp

theorem encCiD_fields (c : CWord) (h0 : CFld.quadrant c = 2#2) :
    encCiD (CFld.funct3 c) (CFld.rd c) (CFld.uimmLdsp c) = c := by
  unfold encCiD
  rw [← h0]
  unfold CFld.funct3 CFld.quadrant CFld.rd CFld.uimmLdsp
  apply BitVec.eq_of_getLsbD_eq; intro i hi
  simp only [BitVec.getLsbD_append, BitVec.getLsbD_extractLsb']
  interval_cases i <;> first | rfl | simp

theorem encCiW_fields (c : CWord) (h0 : CFld.quadrant c = 2#2) :
    encCiW (CFld.funct3 c) (CFld.rd c) (CFld.uimmLwsp c) = c := by
  unfold encCiW
  rw [← h0]
  unfold CFld.funct3 CFld.quadrant CFld.rd CFld.uimmLwsp
  apply BitVec.eq_of_getLsbD_eq; intro i hi
  simp only [BitVec.getLsbD_append, BitVec.getLsbD_extractLsb']
  interval_cases i <;> first | rfl | simp

theorem encCr_fields (c : CWord) (h0 : CFld.quadrant c = 2#2) :
    encCr (c.extractLsb' 12 4) (CFld.rd c) (CFld.rs2 c) = c := by
  unfold encCr
  rw [← h0]
  unfold CFld.quadrant CFld.rd CFld.rs2
  apply BitVec.eq_of_getLsbD_eq; intro i hi
  simp only [BitVec.getLsbD_append, BitVec.getLsbD_extractLsb']
  interval_cases i <;> first | rfl | simp

theorem encCssD_fields (c : CWord) (h0 : CFld.quadrant c = 2#2) :
    encCssD (CFld.funct3 c) (CFld.rs2 c) (CFld.uimmSdsp c) = c := by
  unfold encCssD
  rw [← h0]
  unfold CFld.funct3 CFld.quadrant CFld.rs2 CFld.uimmSdsp
  apply BitVec.eq_of_getLsbD_eq; intro i hi
  simp only [BitVec.getLsbD_append, BitVec.getLsbD_extractLsb']
  interval_cases i <;> first | rfl | simp

theorem encCssW_fields (c : CWord) (h0 : CFld.quadrant c = 2#2) :
    encCssW (CFld.funct3 c) (CFld.rs2 c) (CFld.uimmSwsp c) = c := by
  unfold encCssW
  rw [← h0]
  unfold CFld.funct3 CFld.quadrant CFld.rs2 CFld.uimmSwsp
  apply BitVec.eq_of_getLsbD_eq; intro i hi
  simp only [BitVec.getLsbD_append, BitVec.getLsbD_extractLsb']
  interval_cases i <;> first | rfl | simp

end Sys2Proof
end

