-- ==== Sys2Proof/Laws/State.lean ====
section
/-! SUPPORT. One lemma per field per update: what each operation on the state leaves alone, and what it writes. -/

namespace Sys2Proof.Machine

/-! ### `State.setX` -/

@[simp] theorem setX_cfg (s : State) (r : RegIx) (v : Word) : (s.setX r v).cfg = s.cfg := by unfold State.setX; split <;> rfl
@[simp] theorem setX_pc (s : State) (r : RegIx) (v : Word) : (s.setX r v).pc = s.pc := by unfold State.setX; split <;> rfl
@[simp] theorem setX_fs (s : State) (r : RegIx) (v : Word) : (s.setX r v).fs = s.fs := by unfold State.setX; split <;> rfl
@[simp] theorem setX_fd (s : State) (r : RegIx) (v : Word) : (s.setX r v).fd = s.fd := by unfold State.setX; split <;> rfl
@[simp] theorem setX_mstatus (s : State) (r : RegIx) (v : Word) : (s.setX r v).mstatus = s.mstatus := by unfold State.setX; split <;> rfl
@[simp] theorem setX_mtvec (s : State) (r : RegIx) (v : Word) : (s.setX r v).mtvec = s.mtvec := by unfold State.setX; split <;> rfl
@[simp] theorem setX_mepc (s : State) (r : RegIx) (v : Word) : (s.setX r v).mepc = s.mepc := by unfold State.setX; split <;> rfl
@[simp] theorem setX_mcause (s : State) (r : RegIx) (v : Word) : (s.setX r v).mcause = s.mcause := by unfold State.setX; split <;> rfl
@[simp] theorem setX_sstatus (s : State) (r : RegIx) (v : Word) : (s.setX r v).sstatus = s.sstatus := by unfold State.setX; split <;> rfl
@[simp] theorem setX_sepc (s : State) (r : RegIx) (v : Word) : (s.setX r v).sepc = s.sepc := by unfold State.setX; split <;> rfl
@[simp] theorem setX_scause (s : State) (r : RegIx) (v : Word) : (s.setX r v).scause = s.scause := by unfold State.setX; split <;> rfl
@[simp] theorem setX_csrs (s : State) (r : RegIx) (v : Word) : (s.setX r v).csrs = s.csrs := by unfold State.setX; split <;> rfl
@[simp] theorem setX_priv (s : State) (r : RegIx) (v : Word) : (s.setX r v).priv = s.priv := by unfold State.setX; split <;> rfl
@[simp] theorem setX_resvAddr (s : State) (r : RegIx) (v : Word) : (s.setX r v).resvAddr = s.resvAddr := by unfold State.setX; split <;> rfl
@[simp] theorem setX_resvValid (s : State) (r : RegIx) (v : Word) : (s.setX r v).resvValid = s.resvValid := by unfold State.setX; split <;> rfl
@[simp] theorem setX_mem (s : State) (r : RegIx) (v : Word) : (s.setX r v).mem = s.mem := by unfold State.setX; split <;> rfl
@[simp] theorem setX_stream (s : State) (r : RegIx) (v : Word) : (s.setX r v).stream = s.stream := by unfold State.setX; split <;> rfl
@[simp] theorem setX_steps (s : State) (r : RegIx) (v : Word) : (s.setX r v).steps = s.steps := by unfold State.setX; split <;> rfl
@[simp] theorem setX_free (s : State) (r : RegIx) (v : Word) : (s.setX r v).free = s.free := by unfold State.setX; split <;> rfl

/-! ### `State.setS` -/

@[simp] theorem setS_cfg (s : State) (r : RegIx) (v : BitVec 32) : (s.setS r v).cfg = s.cfg := rfl
@[simp] theorem setS_x (s : State) (r : RegIx) (v : BitVec 32) : (s.setS r v).x = s.x := rfl
@[simp] theorem setS_pc (s : State) (r : RegIx) (v : BitVec 32) : (s.setS r v).pc = s.pc := rfl
@[simp] theorem setS_fd (s : State) (r : RegIx) (v : BitVec 32) : (s.setS r v).fd = s.fd := rfl
@[simp] theorem setS_mstatus (s : State) (r : RegIx) (v : BitVec 32) : (s.setS r v).mstatus = s.mstatus := rfl
@[simp] theorem setS_mtvec (s : State) (r : RegIx) (v : BitVec 32) : (s.setS r v).mtvec = s.mtvec := rfl
@[simp] theorem setS_mepc (s : State) (r : RegIx) (v : BitVec 32) : (s.setS r v).mepc = s.mepc := rfl
@[simp] theorem setS_mcause (s : State) (r : RegIx) (v : BitVec 32) : (s.setS r v).mcause = s.mcause := rfl
@[simp] theorem setS_sstatus (s : State) (r : RegIx) (v : BitVec 32) : (s.setS r v).sstatus = s.sstatus := rfl
@[simp] theorem setS_sepc (s : State) (r : RegIx) (v : BitVec 32) : (s.setS r v).sepc = s.sepc := rfl
@[simp] theorem setS_scause (s : State) (r : RegIx) (v : BitVec 32) : (s.setS r v).scause = s.scause := rfl
@[simp] theorem setS_csrs (s : State) (r : RegIx) (v : BitVec 32) : (s.setS r v).csrs = s.csrs := rfl
@[simp] theorem setS_priv (s : State) (r : RegIx) (v : BitVec 32) : (s.setS r v).priv = s.priv := rfl
@[simp] theorem setS_resvAddr (s : State) (r : RegIx) (v : BitVec 32) : (s.setS r v).resvAddr = s.resvAddr := rfl
@[simp] theorem setS_resvValid (s : State) (r : RegIx) (v : BitVec 32) : (s.setS r v).resvValid = s.resvValid := rfl
@[simp] theorem setS_mem (s : State) (r : RegIx) (v : BitVec 32) : (s.setS r v).mem = s.mem := rfl
@[simp] theorem setS_stream (s : State) (r : RegIx) (v : BitVec 32) : (s.setS r v).stream = s.stream := rfl
@[simp] theorem setS_steps (s : State) (r : RegIx) (v : BitVec 32) : (s.setS r v).steps = s.steps := rfl
@[simp] theorem setS_free (s : State) (r : RegIx) (v : BitVec 32) : (s.setS r v).free = s.free := rfl

/-! ### `State.setD` -/

@[simp] theorem setD_cfg (s : State) (r : RegIx) (v : BitVec 64) : (s.setD r v).cfg = s.cfg := rfl
@[simp] theorem setD_x (s : State) (r : RegIx) (v : BitVec 64) : (s.setD r v).x = s.x := rfl
@[simp] theorem setD_pc (s : State) (r : RegIx) (v : BitVec 64) : (s.setD r v).pc = s.pc := rfl
@[simp] theorem setD_fs (s : State) (r : RegIx) (v : BitVec 64) : (s.setD r v).fs = s.fs := rfl
@[simp] theorem setD_mstatus (s : State) (r : RegIx) (v : BitVec 64) : (s.setD r v).mstatus = s.mstatus := rfl
@[simp] theorem setD_mtvec (s : State) (r : RegIx) (v : BitVec 64) : (s.setD r v).mtvec = s.mtvec := rfl
@[simp] theorem setD_mepc (s : State) (r : RegIx) (v : BitVec 64) : (s.setD r v).mepc = s.mepc := rfl
@[simp] theorem setD_mcause (s : State) (r : RegIx) (v : BitVec 64) : (s.setD r v).mcause = s.mcause := rfl
@[simp] theorem setD_sstatus (s : State) (r : RegIx) (v : BitVec 64) : (s.setD r v).sstatus = s.sstatus := rfl
@[simp] theorem setD_sepc (s : State) (r : RegIx) (v : BitVec 64) : (s.setD r v).sepc = s.sepc := rfl
@[simp] theorem setD_scause (s : State) (r : RegIx) (v : BitVec 64) : (s.setD r v).scause = s.scause := rfl
@[simp] theorem setD_csrs (s : State) (r : RegIx) (v : BitVec 64) : (s.setD r v).csrs = s.csrs := rfl
@[simp] theorem setD_priv (s : State) (r : RegIx) (v : BitVec 64) : (s.setD r v).priv = s.priv := rfl
@[simp] theorem setD_resvAddr (s : State) (r : RegIx) (v : BitVec 64) : (s.setD r v).resvAddr = s.resvAddr := rfl
@[simp] theorem setD_resvValid (s : State) (r : RegIx) (v : BitVec 64) : (s.setD r v).resvValid = s.resvValid := rfl
@[simp] theorem setD_mem (s : State) (r : RegIx) (v : BitVec 64) : (s.setD r v).mem = s.mem := rfl
@[simp] theorem setD_stream (s : State) (r : RegIx) (v : BitVec 64) : (s.setD r v).stream = s.stream := rfl
@[simp] theorem setD_steps (s : State) (r : RegIx) (v : BitVec 64) : (s.setD r v).steps = s.steps := rfl
@[simp] theorem setD_free (s : State) (r : RegIx) (v : BitVec 64) : (s.setD r v).free = s.free := rfl

/-! ### `State.setPc` -/

@[simp] theorem setPc_cfg (s : State) (a : Word) : (s.setPc a).cfg = s.cfg := rfl
@[simp] theorem setPc_x (s : State) (a : Word) : (s.setPc a).x = s.x := rfl
@[simp] theorem setPc_fs (s : State) (a : Word) : (s.setPc a).fs = s.fs := rfl
@[simp] theorem setPc_fd (s : State) (a : Word) : (s.setPc a).fd = s.fd := rfl
@[simp] theorem setPc_mstatus (s : State) (a : Word) : (s.setPc a).mstatus = s.mstatus := rfl
@[simp] theorem setPc_mtvec (s : State) (a : Word) : (s.setPc a).mtvec = s.mtvec := rfl
@[simp] theorem setPc_mepc (s : State) (a : Word) : (s.setPc a).mepc = s.mepc := rfl
@[simp] theorem setPc_mcause (s : State) (a : Word) : (s.setPc a).mcause = s.mcause := rfl
@[simp] theorem setPc_sstatus (s : State) (a : Word) : (s.setPc a).sstatus = s.sstatus := rfl
@[simp] theorem setPc_sepc (s : State) (a : Word) : (s.setPc a).sepc = s.sepc := rfl
@[simp] theorem setPc_scause (s : State) (a : Word) : (s.setPc a).scause = s.scause := rfl
@[simp] theorem setPc_csrs (s : State) (a : Word) : (s.setPc a).csrs = s.csrs := rfl
@[simp] theorem setPc_priv (s : State) (a : Word) : (s.setPc a).priv = s.priv := rfl
@[simp] theorem setPc_resvAddr (s : State) (a : Word) : (s.setPc a).resvAddr = s.resvAddr := rfl
@[simp] theorem setPc_resvValid (s : State) (a : Word) : (s.setPc a).resvValid = s.resvValid := rfl
@[simp] theorem setPc_mem (s : State) (a : Word) : (s.setPc a).mem = s.mem := rfl
@[simp] theorem setPc_stream (s : State) (a : Word) : (s.setPc a).stream = s.stream := rfl
@[simp] theorem setPc_steps (s : State) (a : Word) : (s.setPc a).steps = s.steps := rfl
@[simp] theorem setPc_free (s : State) (a : Word) : (s.setPc a).free = s.free := rfl

@[simp] theorem setPc_pc (s : State) (a : Word) : (s.setPc a).pc = xzext s.cfg.xlen a := rfl

/-! ### `State.advance` -/

@[simp] theorem advance_cfg (s : State) (len : Nat) : (s.advance len).cfg = s.cfg := rfl
@[simp] theorem advance_x (s : State) (len : Nat) : (s.advance len).x = s.x := rfl
@[simp] theorem advance_fs (s : State) (len : Nat) : (s.advance len).fs = s.fs := rfl
@[simp] theorem advance_fd (s : State) (len : Nat) : (s.advance len).fd = s.fd := rfl
@[simp] theorem advance_mstatus (s : State) (len : Nat) : (s.advance len).mstatus = s.mstatus := rfl
@[simp] theorem advance_mtvec (s : State) (len : Nat) : (s.advance len).mtvec = s.mtvec := rfl
@[simp] theorem advance_mepc (s : State) (len : Nat) : (s.advance len).mepc = s.mepc := rfl
@[simp] theorem advance_mcause (s : State) (len : Nat) : (s.advance len).mcause = s.mcause := rfl
@[simp] theorem advance_sstatus (s : State) (len : Nat) : (s.advance len).sstatus = s.sstatus := rfl
@[simp] theorem advance_sepc (s : State) (len : Nat) : (s.advance len).sepc = s.sepc := rfl
@[simp] theorem advance_scause (s : State) (len : Nat) : (s.advance len).scause = s.scause := rfl
@[simp] theorem advance_csrs (s : State) (len : Nat) : (s.advance len).csrs = s.csrs := rfl
@[simp] theorem advance_priv (s : State) (len : Nat) : (s.advance len).priv = s.priv := rfl
@[simp] theorem advance_resvAddr (s : State) (len : Nat) : (s.advance len).resvAddr = s.resvAddr := rfl
@[simp] theorem advance_resvValid (s : State) (len : Nat) : (s.advance len).resvValid = s.resvValid := rfl
@[simp] theorem advance_mem (s : State) (len : Nat) : (s.advance len).mem = s.mem := rfl
@[simp] theorem advance_stream (s : State) (len : Nat) : (s.advance len).stream = s.stream := rfl
@[simp] theorem advance_steps (s : State) (len : Nat) : (s.advance len).steps = s.steps := rfl
@[simp] theorem advance_free (s : State) (len : Nat) : (s.advance len).free = s.free := rfl

@[simp] theorem advance_pc (s : State) (len : Nat) : (s.advance len).pc = xzext s.cfg.xlen (s.nextPc len) := rfl

/-! ### `State.retX` -/

@[simp] theorem retX_cfg (s : State) (len : Nat) (rd : RegIx) (v : Word) : (s.retX len rd v).cfg = s.cfg := by simp [State.retX]
@[simp] theorem retX_fs (s : State) (len : Nat) (rd : RegIx) (v : Word) : (s.retX len rd v).fs = s.fs := by simp [State.retX]
@[simp] theorem retX_fd (s : State) (len : Nat) (rd : RegIx) (v : Word) : (s.retX len rd v).fd = s.fd := by simp [State.retX]
@[simp] theorem retX_mstatus (s : State) (len : Nat) (rd : RegIx) (v : Word) : (s.retX len rd v).mstatus = s.mstatus := by simp [State.retX]
@[simp] theorem retX_mtvec (s : State) (len : Nat) (rd : RegIx) (v : Word) : (s.retX len rd v).mtvec = s.mtvec := by simp [State.retX]
@[simp] theorem retX_mepc (s : State) (len : Nat) (rd : RegIx) (v : Word) : (s.retX len rd v).mepc = s.mepc := by simp [State.retX]
@[simp] theorem retX_mcause (s : State) (len : Nat) (rd : RegIx) (v : Word) : (s.retX len rd v).mcause = s.mcause := by simp [State.retX]
@[simp] theorem retX_sstatus (s : State) (len : Nat) (rd : RegIx) (v : Word) : (s.retX len rd v).sstatus = s.sstatus := by simp [State.retX]
@[simp] theorem retX_sepc (s : State) (len : Nat) (rd : RegIx) (v : Word) : (s.retX len rd v).sepc = s.sepc := by simp [State.retX]
@[simp] theorem retX_scause (s : State) (len : Nat) (rd : RegIx) (v : Word) : (s.retX len rd v).scause = s.scause := by simp [State.retX]
@[simp] theorem retX_csrs (s : State) (len : Nat) (rd : RegIx) (v : Word) : (s.retX len rd v).csrs = s.csrs := by simp [State.retX]
@[simp] theorem retX_priv (s : State) (len : Nat) (rd : RegIx) (v : Word) : (s.retX len rd v).priv = s.priv := by simp [State.retX]
@[simp] theorem retX_resvAddr (s : State) (len : Nat) (rd : RegIx) (v : Word) : (s.retX len rd v).resvAddr = s.resvAddr := by simp [State.retX]
@[simp] theorem retX_resvValid (s : State) (len : Nat) (rd : RegIx) (v : Word) : (s.retX len rd v).resvValid = s.resvValid := by simp [State.retX]
@[simp] theorem retX_mem (s : State) (len : Nat) (rd : RegIx) (v : Word) : (s.retX len rd v).mem = s.mem := by simp [State.retX]
@[simp] theorem retX_stream (s : State) (len : Nat) (rd : RegIx) (v : Word) : (s.retX len rd v).stream = s.stream := by simp [State.retX]
@[simp] theorem retX_steps (s : State) (len : Nat) (rd : RegIx) (v : Word) : (s.retX len rd v).steps = s.steps := by simp [State.retX]
@[simp] theorem retX_free (s : State) (len : Nat) (rd : RegIx) (v : Word) : (s.retX len rd v).free = s.free := by simp [State.retX]

/-! ### `State.retS` -/

@[simp] theorem retS_cfg (s : State) (rd : RegIx) (r : Option (BitVec 32)) : (s.retS rd r).cfg = s.cfg := rfl
@[simp] theorem retS_x (s : State) (rd : RegIx) (r : Option (BitVec 32)) : (s.retS rd r).x = s.x := rfl
@[simp] theorem retS_fd (s : State) (rd : RegIx) (r : Option (BitVec 32)) : (s.retS rd r).fd = s.fd := rfl
@[simp] theorem retS_mstatus (s : State) (rd : RegIx) (r : Option (BitVec 32)) : (s.retS rd r).mstatus = s.mstatus := rfl
@[simp] theorem retS_mtvec (s : State) (rd : RegIx) (r : Option (BitVec 32)) : (s.retS rd r).mtvec = s.mtvec := rfl
@[simp] theorem retS_mepc (s : State) (rd : RegIx) (r : Option (BitVec 32)) : (s.retS rd r).mepc = s.mepc := rfl
@[simp] theorem retS_mcause (s : State) (rd : RegIx) (r : Option (BitVec 32)) : (s.retS rd r).mcause = s.mcause := rfl
@[simp] theorem retS_sstatus (s : State) (rd : RegIx) (r : Option (BitVec 32)) : (s.retS rd r).sstatus = s.sstatus := rfl
@[simp] theorem retS_sepc (s : State) (rd : RegIx) (r : Option (BitVec 32)) : (s.retS rd r).sepc = s.sepc := rfl
@[simp] theorem retS_scause (s : State) (rd : RegIx) (r : Option (BitVec 32)) : (s.retS rd r).scause = s.scause := rfl
@[simp] theorem retS_csrs (s : State) (rd : RegIx) (r : Option (BitVec 32)) : (s.retS rd r).csrs = s.csrs := rfl
@[simp] theorem retS_priv (s : State) (rd : RegIx) (r : Option (BitVec 32)) : (s.retS rd r).priv = s.priv := rfl
@[simp] theorem retS_resvAddr (s : State) (rd : RegIx) (r : Option (BitVec 32)) : (s.retS rd r).resvAddr = s.resvAddr := rfl
@[simp] theorem retS_resvValid (s : State) (rd : RegIx) (r : Option (BitVec 32)) : (s.retS rd r).resvValid = s.resvValid := rfl
@[simp] theorem retS_mem (s : State) (rd : RegIx) (r : Option (BitVec 32)) : (s.retS rd r).mem = s.mem := rfl
@[simp] theorem retS_stream (s : State) (rd : RegIx) (r : Option (BitVec 32)) : (s.retS rd r).stream = s.stream := rfl
@[simp] theorem retS_steps (s : State) (rd : RegIx) (r : Option (BitVec 32)) : (s.retS rd r).steps = s.steps := rfl
@[simp] theorem retS_free (s : State) (rd : RegIx) (r : Option (BitVec 32)) : (s.retS rd r).free = s.free := rfl

/-! ### `State.retD` -/

@[simp] theorem retD_cfg (s : State) (rd : RegIx) (r : Option (BitVec 64)) : (s.retD rd r).cfg = s.cfg := rfl
@[simp] theorem retD_x (s : State) (rd : RegIx) (r : Option (BitVec 64)) : (s.retD rd r).x = s.x := rfl
@[simp] theorem retD_fs (s : State) (rd : RegIx) (r : Option (BitVec 64)) : (s.retD rd r).fs = s.fs := rfl
@[simp] theorem retD_mstatus (s : State) (rd : RegIx) (r : Option (BitVec 64)) : (s.retD rd r).mstatus = s.mstatus := rfl
@[simp] theorem retD_mtvec (s : State) (rd : RegIx) (r : Option (BitVec 64)) : (s.retD rd r).mtvec = s.mtvec := rfl
@[simp] theorem retD_mepc (s : State) (rd : RegIx) (r : Option (BitVec 64)) : (s.retD rd r).mepc = s.mepc := rfl
@[simp] theorem retD_mcause (s : State) (rd : RegIx) (r : Option (BitVec 64)) : (s.retD rd r).mcause = s.mcause := rfl
@[simp] theorem retD_sstatus (s : State) (rd : RegIx) (r : Option (BitVec 64)) : (s.retD rd r).sstatus = s.sstatus := rfl
@[simp] theorem retD_sepc (s : State) (rd : RegIx) (r : Option (BitVec 64)) : (s.retD rd r).sepc = s.sepc := rfl
@[simp] theorem retD_scause (s : State) (rd : RegIx) (r : Option (BitVec 64)) : (s.retD rd r).scause = s.scause := rfl
@[simp] theorem retD_csrs (s : State) (rd : RegIx) (r : Option (BitVec 64)) : (s.retD rd r).csrs = s.csrs := rfl
@[simp] theorem retD_priv (s : State) (rd : RegIx) (r : Option (BitVec 64)) : (s.retD rd r).priv = s.priv := rfl
@[simp] theorem retD_resvAddr (s : State) (rd : RegIx) (r : Option (BitVec 64)) : (s.retD rd r).resvAddr = s.resvAddr := rfl
@[simp] theorem retD_resvValid (s : State) (rd : RegIx) (r : Option (BitVec 64)) : (s.retD rd r).resvValid = s.resvValid := rfl
@[simp] theorem retD_mem (s : State) (rd : RegIx) (r : Option (BitVec 64)) : (s.retD rd r).mem = s.mem := rfl
@[simp] theorem retD_stream (s : State) (rd : RegIx) (r : Option (BitVec 64)) : (s.retD rd r).stream = s.stream := rfl
@[simp] theorem retD_steps (s : State) (rd : RegIx) (r : Option (BitVec 64)) : (s.retD rd r).steps = s.steps := rfl
@[simp] theorem retD_free (s : State) (rd : RegIx) (r : Option (BitVec 64)) : (s.retD rd r).free = s.free := rfl

/-! ### `State.setCsr` -/

@[simp] theorem setCsr_cfg (s : State) (a : BitVec 12) (v : CsrWord) : (s.setCsr a v).cfg = s.cfg := by unfold State.setCsr; split <;> rfl
@[simp] theorem setCsr_x (s : State) (a : BitVec 12) (v : CsrWord) : (s.setCsr a v).x = s.x := by unfold State.setCsr; split <;> rfl
@[simp] theorem setCsr_pc (s : State) (a : BitVec 12) (v : CsrWord) : (s.setCsr a v).pc = s.pc := by unfold State.setCsr; split <;> rfl
@[simp] theorem setCsr_fs (s : State) (a : BitVec 12) (v : CsrWord) : (s.setCsr a v).fs = s.fs := by unfold State.setCsr; split <;> rfl
@[simp] theorem setCsr_fd (s : State) (a : BitVec 12) (v : CsrWord) : (s.setCsr a v).fd = s.fd := by unfold State.setCsr; split <;> rfl
@[simp] theorem setCsr_priv (s : State) (a : BitVec 12) (v : CsrWord) : (s.setCsr a v).priv = s.priv := by unfold State.setCsr; split <;> rfl
@[simp] theorem setCsr_resvAddr (s : State) (a : BitVec 12) (v : CsrWord) : (s.setCsr a v).resvAddr = s.resvAddr := by unfold State.setCsr; split <;> rfl
@[simp] theorem setCsr_resvValid (s : State) (a : BitVec 12) (v : CsrWord) : (s.setCsr a v).resvValid = s.resvValid := by unfold State.setCsr; split <;> rfl
@[simp] theorem setCsr_mem (s : State) (a : BitVec 12) (v : CsrWord) : (s.setCsr a v).mem = s.mem := by unfold State.setCsr; split <;> rfl
@[simp] theorem setCsr_stream (s : State) (a : BitVec 12) (v : CsrWord) : (s.setCsr a v).stream = s.stream := by unfold State.setCsr; split <;> rfl
@[simp] theorem setCsr_steps (s : State) (a : BitVec 12) (v : CsrWord) : (s.setCsr a v).steps = s.steps := by unfold State.setCsr; split <;> rfl
@[simp] theorem setCsr_free (s : State) (a : BitVec 12) (v : CsrWord) : (s.setCsr a v).free = s.free := by unfold State.setCsr; split <;> rfl

/-! ### `State.recordTrap` -/

@[simp] theorem recordTrap_cfg (s : State) (c : Cause) : (s.recordTrap c).cfg = s.cfg := by unfold State.recordTrap; split <;> rfl
@[simp] theorem recordTrap_x (s : State) (c : Cause) : (s.recordTrap c).x = s.x := by unfold State.recordTrap; split <;> rfl
@[simp] theorem recordTrap_pc (s : State) (c : Cause) : (s.recordTrap c).pc = s.pc := by unfold State.recordTrap; split <;> rfl
@[simp] theorem recordTrap_fs (s : State) (c : Cause) : (s.recordTrap c).fs = s.fs := by unfold State.recordTrap; split <;> rfl
@[simp] theorem recordTrap_fd (s : State) (c : Cause) : (s.recordTrap c).fd = s.fd := by unfold State.recordTrap; split <;> rfl
@[simp] theorem recordTrap_mstatus (s : State) (c : Cause) : (s.recordTrap c).mstatus = s.mstatus := by unfold State.recordTrap; split <;> rfl
@[simp] theorem recordTrap_mtvec (s : State) (c : Cause) : (s.recordTrap c).mtvec = s.mtvec := by unfold State.recordTrap; split <;> rfl
@[simp] theorem recordTrap_sstatus (s : State) (c : Cause) : (s.recordTrap c).sstatus = s.sstatus := by unfold State.recordTrap; split <;> rfl
@[simp] theorem recordTrap_csrs (s : State) (c : Cause) : (s.recordTrap c).csrs = s.csrs := by unfold State.recordTrap; split <;> rfl
@[simp] theorem recordTrap_priv (s : State) (c : Cause) : (s.recordTrap c).priv = s.priv := by unfold State.recordTrap; split <;> rfl
@[simp] theorem recordTrap_resvAddr (s : State) (c : Cause) : (s.recordTrap c).resvAddr = s.resvAddr := by unfold State.recordTrap; split <;> rfl
@[simp] theorem recordTrap_resvValid (s : State) (c : Cause) : (s.recordTrap c).resvValid = s.resvValid := by unfold State.recordTrap; split <;> rfl
@[simp] theorem recordTrap_mem (s : State) (c : Cause) : (s.recordTrap c).mem = s.mem := by unfold State.recordTrap; split <;> rfl
@[simp] theorem recordTrap_stream (s : State) (c : Cause) : (s.recordTrap c).stream = s.stream := by unfold State.recordTrap; split <;> rfl
@[simp] theorem recordTrap_steps (s : State) (c : Cause) : (s.recordTrap c).steps = s.steps := by unfold State.recordTrap; split <;> rfl
@[simp] theorem recordTrap_free (s : State) (c : Cause) : (s.recordTrap c).free = s.free := by unfold State.recordTrap; split <;> rfl

/-! ### `State.stackTrap` -/

@[simp] theorem stackTrap_cfg (s : State) : (s.stackTrap).cfg = s.cfg := by unfold State.stackTrap; split <;> rfl
@[simp] theorem stackTrap_x (s : State) : (s.stackTrap).x = s.x := by unfold State.stackTrap; split <;> rfl
@[simp] theorem stackTrap_pc (s : State) : (s.stackTrap).pc = s.pc := by unfold State.stackTrap; split <;> rfl
@[simp] theorem stackTrap_fs (s : State) : (s.stackTrap).fs = s.fs := by unfold State.stackTrap; split <;> rfl
@[simp] theorem stackTrap_fd (s : State) : (s.stackTrap).fd = s.fd := by unfold State.stackTrap; split <;> rfl
@[simp] theorem stackTrap_mtvec (s : State) : (s.stackTrap).mtvec = s.mtvec := by unfold State.stackTrap; split <;> rfl
@[simp] theorem stackTrap_mepc (s : State) : (s.stackTrap).mepc = s.mepc := by unfold State.stackTrap; split <;> rfl
@[simp] theorem stackTrap_mcause (s : State) : (s.stackTrap).mcause = s.mcause := by unfold State.stackTrap; split <;> rfl
@[simp] theorem stackTrap_sstatus (s : State) : (s.stackTrap).sstatus = s.sstatus := by unfold State.stackTrap; split <;> rfl
@[simp] theorem stackTrap_sepc (s : State) : (s.stackTrap).sepc = s.sepc := by unfold State.stackTrap; split <;> rfl
@[simp] theorem stackTrap_scause (s : State) : (s.stackTrap).scause = s.scause := by unfold State.stackTrap; split <;> rfl
@[simp] theorem stackTrap_csrs (s : State) : (s.stackTrap).csrs = s.csrs := by unfold State.stackTrap; split <;> rfl
@[simp] theorem stackTrap_priv (s : State) : (s.stackTrap).priv = s.priv := by unfold State.stackTrap; split <;> rfl
@[simp] theorem stackTrap_resvAddr (s : State) : (s.stackTrap).resvAddr = s.resvAddr := by unfold State.stackTrap; split <;> rfl
@[simp] theorem stackTrap_resvValid (s : State) : (s.stackTrap).resvValid = s.resvValid := by unfold State.stackTrap; split <;> rfl
@[simp] theorem stackTrap_mem (s : State) : (s.stackTrap).mem = s.mem := by unfold State.stackTrap; split <;> rfl
@[simp] theorem stackTrap_stream (s : State) : (s.stackTrap).stream = s.stream := by unfold State.stackTrap; split <;> rfl
@[simp] theorem stackTrap_steps (s : State) : (s.stackTrap).steps = s.steps := by unfold State.stackTrap; split <;> rfl
@[simp] theorem stackTrap_free (s : State) : (s.stackTrap).free = s.free := by unfold State.stackTrap; split <;> rfl

/-! ### `State.trap` -/

@[simp] theorem trap_cfg (s : State) (c : Cause) : (s.trap c).cfg = s.cfg := by simp [State.trap]
@[simp] theorem trap_x (s : State) (c : Cause) : (s.trap c).x = s.x := by simp [State.trap]
@[simp] theorem trap_fs (s : State) (c : Cause) : (s.trap c).fs = s.fs := by simp [State.trap]
@[simp] theorem trap_fd (s : State) (c : Cause) : (s.trap c).fd = s.fd := by simp [State.trap]
@[simp] theorem trap_mtvec (s : State) (c : Cause) : (s.trap c).mtvec = s.mtvec := by simp [State.trap]
@[simp] theorem trap_sstatus (s : State) (c : Cause) : (s.trap c).sstatus = s.sstatus := by simp [State.trap]
@[simp] theorem trap_csrs (s : State) (c : Cause) : (s.trap c).csrs = s.csrs := by simp [State.trap]
@[simp] theorem trap_resvAddr (s : State) (c : Cause) : (s.trap c).resvAddr = s.resvAddr := by simp [State.trap]
@[simp] theorem trap_resvValid (s : State) (c : Cause) : (s.trap c).resvValid = s.resvValid := by simp [State.trap]
@[simp] theorem trap_mem (s : State) (c : Cause) : (s.trap c).mem = s.mem := by simp [State.trap]
@[simp] theorem trap_stream (s : State) (c : Cause) : (s.trap c).stream = s.stream := by simp [State.trap]
@[simp] theorem trap_steps (s : State) (c : Cause) : (s.trap c).steps = s.steps := by simp [State.trap]
@[simp] theorem trap_free (s : State) (c : Cause) : (s.trap c).free = s.free := by simp [State.trap]

@[simp] theorem trap_priv (s : State) (c : Cause) : (s.trap c).priv = 3 := rfl
@[simp] theorem trap_pc (s : State) (c : Cause) : (s.trap c).pc = xzext s.cfg.xlen s.mtvec := by
  simp [State.trap]

/-! ### `State.mret` -/

@[simp] theorem mret_cfg (s : State) : (s.mret).cfg = s.cfg := rfl
@[simp] theorem mret_x (s : State) : (s.mret).x = s.x := rfl
@[simp] theorem mret_fs (s : State) : (s.mret).fs = s.fs := rfl
@[simp] theorem mret_fd (s : State) : (s.mret).fd = s.fd := rfl
@[simp] theorem mret_mtvec (s : State) : (s.mret).mtvec = s.mtvec := rfl
@[simp] theorem mret_mepc (s : State) : (s.mret).mepc = s.mepc := rfl
@[simp] theorem mret_mcause (s : State) : (s.mret).mcause = s.mcause := rfl
@[simp] theorem mret_sstatus (s : State) : (s.mret).sstatus = s.sstatus := rfl
@[simp] theorem mret_sepc (s : State) : (s.mret).sepc = s.sepc := rfl
@[simp] theorem mret_scause (s : State) : (s.mret).scause = s.scause := rfl
@[simp] theorem mret_csrs (s : State) : (s.mret).csrs = s.csrs := rfl
@[simp] theorem mret_resvAddr (s : State) : (s.mret).resvAddr = s.resvAddr := rfl
@[simp] theorem mret_resvValid (s : State) : (s.mret).resvValid = s.resvValid := rfl
@[simp] theorem mret_mem (s : State) : (s.mret).mem = s.mem := rfl
@[simp] theorem mret_stream (s : State) : (s.mret).stream = s.stream := rfl
@[simp] theorem mret_steps (s : State) : (s.mret).steps = s.steps := rfl
@[simp] theorem mret_free (s : State) : (s.mret).free = s.free := rfl

@[simp] theorem mret_pc (s : State) : s.mret.pc = xzext s.cfg.xlen s.mepc := rfl
@[simp] theorem mret_priv (s : State) : s.mret.priv = mpp s.mstatus := rfl
@[simp] theorem mret_mstatus (s : State) : s.mret.mstatus = mstatusOnMret s.mstatus := rfl

/-! ### `State.sret` -/

@[simp] theorem sret_cfg (s : State) : (s.sret).cfg = s.cfg := rfl
@[simp] theorem sret_x (s : State) : (s.sret).x = s.x := rfl
@[simp] theorem sret_fs (s : State) : (s.sret).fs = s.fs := rfl
@[simp] theorem sret_fd (s : State) : (s.sret).fd = s.fd := rfl
@[simp] theorem sret_mstatus (s : State) : (s.sret).mstatus = s.mstatus := rfl
@[simp] theorem sret_mtvec (s : State) : (s.sret).mtvec = s.mtvec := rfl
@[simp] theorem sret_mepc (s : State) : (s.sret).mepc = s.mepc := rfl
@[simp] theorem sret_mcause (s : State) : (s.sret).mcause = s.mcause := rfl
@[simp] theorem sret_sepc (s : State) : (s.sret).sepc = s.sepc := rfl
@[simp] theorem sret_scause (s : State) : (s.sret).scause = s.scause := rfl
@[simp] theorem sret_csrs (s : State) : (s.sret).csrs = s.csrs := rfl
@[simp] theorem sret_resvAddr (s : State) : (s.sret).resvAddr = s.resvAddr := rfl
@[simp] theorem sret_resvValid (s : State) : (s.sret).resvValid = s.resvValid := rfl
@[simp] theorem sret_mem (s : State) : (s.sret).mem = s.mem := rfl
@[simp] theorem sret_stream (s : State) : (s.sret).stream = s.stream := rfl
@[simp] theorem sret_steps (s : State) : (s.sret).steps = s.steps := rfl
@[simp] theorem sret_free (s : State) : (s.sret).free = s.free := rfl

@[simp] theorem sret_pc (s : State) : s.sret.pc = xzext s.cfg.xlen s.sepc := rfl
@[simp] theorem sret_priv (s : State) : s.sret.priv = sretPriv s.sstatus := rfl
@[simp] theorem sret_sstatus (s : State) : s.sret.sstatus = sstatusOnSret s.sstatus := rfl

/-! ### `State.tick` -/

@[simp] theorem tick_cfg (s : State) : (s.tick).cfg = s.cfg := rfl
@[simp] theorem tick_x (s : State) : (s.tick).x = s.x := rfl
@[simp] theorem tick_pc (s : State) : (s.tick).pc = s.pc := rfl
@[simp] theorem tick_fs (s : State) : (s.tick).fs = s.fs := rfl
@[simp] theorem tick_fd (s : State) : (s.tick).fd = s.fd := rfl
@[simp] theorem tick_mstatus (s : State) : (s.tick).mstatus = s.mstatus := rfl
@[simp] theorem tick_mtvec (s : State) : (s.tick).mtvec = s.mtvec := rfl
@[simp] theorem tick_mepc (s : State) : (s.tick).mepc = s.mepc := rfl
@[simp] theorem tick_mcause (s : State) : (s.tick).mcause = s.mcause := rfl
@[simp] theorem tick_sstatus (s : State) : (s.tick).sstatus = s.sstatus := rfl
@[simp] theorem tick_sepc (s : State) : (s.tick).sepc = s.sepc := rfl
@[simp] theorem tick_scause (s : State) : (s.tick).scause = s.scause := rfl
@[simp] theorem tick_csrs (s : State) : (s.tick).csrs = s.csrs := rfl
@[simp] theorem tick_priv (s : State) : (s.tick).priv = s.priv := rfl
@[simp] theorem tick_resvAddr (s : State) : (s.tick).resvAddr = s.resvAddr := rfl
@[simp] theorem tick_resvValid (s : State) : (s.tick).resvValid = s.resvValid := rfl
@[simp] theorem tick_mem (s : State) : (s.tick).mem = s.mem := rfl
@[simp] theorem tick_stream (s : State) : (s.tick).stream = s.stream := rfl

@[simp] theorem tick_steps (s : State) : s.tick.steps = s.steps + 1 := rfl
@[simp] theorem tick_free (s : State) : s.tick.free = s.free + 1 := rfl

end Sys2Proof.Machine
end

