-- ==== Sys2Proof/Laws/Memory.lean ====
section
/-! SUPPORT. Sparse storage and memory: read after write, what a write leaves alone, and that every operation keeps the canonical form. -/

namespace Sys2Proof.Machine

/-! ## Sparse storage -/

theorem sparseWf_cons {n hi lo a : Nat} {v : BitVec n} {t : List (Nat × BitVec n)} :
    sparseWf hi lo ((a, v) :: t) = true ↔
      lo ≤ a ∧ a < hi ∧ v ≠ 0 ∧ sparseWf hi (a + 1) t = true := by
  simp only [sparseWf, Bool.and_eq_true, decide_eq_true_eq, bne_iff_ne, and_assoc]

theorem sparseGet_of_lt {n hi lo k : Nat} {l : List (Nat × BitVec n)} (h : sparseWf hi lo l = true)
    (hk : k < lo) : sparseGet l k = 0 := by
  induction l generalizing lo with
  | nil => rfl
  | cons p t ih =>
    obtain ⟨a, v⟩ := p
    obtain ⟨hlo, _, _, ht⟩ := sparseWf_cons.1 h
    have ha : a ≠ k := by omega
    simp only [sparseGet, ha, if_false]
    exact ih ht (by omega)

theorem sparseWf_mono {n hi lo lo' : Nat} {l : List (Nat × BitVec n)}
    (h : sparseWf hi lo l = true) (hl : lo' ≤ lo) : sparseWf hi lo' l = true := by
  cases l with
  | nil => rfl
  | cons p t =>
    obtain ⟨h1, h2, h3, h4⟩ := sparseWf_cons.1 h
    exact sparseWf_cons.2 ⟨by omega, h2, h3, h4⟩

theorem sparseWf_grow {n hi hi' lo : Nat} {l : List (Nat × BitVec n)}
    (h : sparseWf hi lo l = true) (hh : hi ≤ hi') : sparseWf hi' lo l = true := by
  induction l generalizing lo with
  | nil => rfl
  | cons p t ih =>
    obtain ⟨h1, h2, h3, h4⟩ := sparseWf_cons.1 h
    exact sparseWf_cons.2 ⟨h1, by omega, h3, ih h4⟩

theorem sparsePut_wf {n hi lo k : Nat} {l : List (Nat × BitVec n)} {v : BitVec n}
    (h : sparseWf hi lo l = true) (hlo : lo ≤ k) (hhi : k < hi) :
    sparseWf hi lo (sparsePut l k v) = true := by
  induction l generalizing lo with
  | nil =>
    simp only [sparsePut]
    split
    · rfl
    · rename_i hv
      exact sparseWf_cons.2 ⟨hlo, hhi, hv, rfl⟩
  | cons p t ih =>
    obtain ⟨a, u⟩ := p
    obtain ⟨h1, h2, h3, h4⟩ := sparseWf_cons.1 h
    simp only [sparsePut]
    split
    · rename_i hka
      split
      · exact h
      · rename_i hv
        exact sparseWf_cons.2 ⟨hlo, hhi, hv, sparseWf_cons.2 ⟨by omega, h2, h3, h4⟩⟩
    · split
      · rename_i hka
        subst hka
        split
        · exact sparseWf_mono h4 (by omega)
        · rename_i hv
          exact sparseWf_cons.2 ⟨h1, h2, hv, h4⟩
      · exact sparseWf_cons.2 ⟨h1, h2, h3, ih h4 (by omega)⟩

theorem sparseGet_put_ne {n k j : Nat} {l : List (Nat × BitVec n)} {v : BitVec n} (hj : j ≠ k) :
    sparseGet (sparsePut l k v) j = sparseGet l j := by
  induction l with
  | nil =>
    simp only [sparsePut]
    split <;> simp [sparseGet, Ne.symm hj]
  | cons p t ih =>
    obtain ⟨a, u⟩ := p
    simp only [sparsePut]
    split
    · split
      · rfl
      · simp [sparseGet, Ne.symm hj]
    · split
      · rename_i h; subst h
        split <;> simp [sparseGet, Ne.symm hj]
      · simp only [sparseGet, ih]

theorem sparseGet_put_eq {n hi lo k : Nat} {l : List (Nat × BitVec n)} {v : BitVec n}
    (h : sparseWf hi lo l = true) : sparseGet (sparsePut l k v) k = v := by
  induction l generalizing lo with
  | nil =>
    simp only [sparsePut]
    split
    · rename_i hv; simp [sparseGet, hv]
    · simp [sparseGet]
  | cons p t ih =>
    obtain ⟨a, u⟩ := p
    obtain ⟨_, _, _, ht⟩ := sparseWf_cons.1 h
    simp only [sparsePut]
    split
    · split
      · rename_i hka hv
        subst hv
        have ha : a ≠ k := by omega
        simp only [sparseGet, ha, if_false]
        exact sparseGet_of_lt ht (by omega)
      · simp [sparseGet]
    · split
      · rename_i h; subst h
        split
        · rename_i hv; subst hv
          exact sparseGet_of_lt ht (by omega)
        · simp [sparseGet]
      · rename_i h1 h2
        have ha : a ≠ k := Ne.symm h2
        simp only [sparseGet, ha, if_false]
        exact ih ht

theorem sparsePut_mem {n k : Nat} {l : List (Nat × BitVec n)} {v : BitVec n} {p : Nat × BitVec n}
    (h : p ∈ sparsePut l k v) : p ∈ l ∨ p.1 = k := by
  induction l with
  | nil =>
    simp only [sparsePut] at h
    split at h
    · simp at h
    · simp at h; simp [h]
  | cons q t ih =>
    obtain ⟨a, u⟩ := q
    simp only [sparsePut] at h
    split at h
    · split at h
      · exact .inl h
      · rcases List.mem_cons.1 h with h | h
        · simp [h]
        · exact .inl h
    · split at h
      · split at h
        · exact .inl (List.mem_cons_of_mem _ h)
        · rcases List.mem_cons.1 h with h | h
          · simp [h]
          · exact .inl (List.mem_cons_of_mem _ h)
      · rcases List.mem_cons.1 h with h | h
        · exact .inl (h ▸ List.mem_cons_self)
        · rcases ih h with h | h
          · exact .inl (List.mem_cons_of_mem _ h)
          · exact .inr h

/-! ## Bytes -/

theorem storeBytes_wf {w size a n : Nat} {m : List Host.Cell} {v : BitVec w}
    (h : Memory.wf size m = true) (ha : a + n ≤ size) :
    Memory.wf size (storeBytes m a v n) = true := by
  induction n with
  | zero => exact h
  | succ n ih => exact sparsePut_wf (ih (by omega)) (by omega) (by omega)

theorem storeBytes_get_outside {w a n k : Nat} {m : List Host.Cell} {v : BitVec w}
    (hk : k < a ∨ a + n ≤ k) : sparseGet (storeBytes m a v n) k = sparseGet m k := by
  induction n with
  | zero => rfl
  | succ n ih =>
    rw [storeBytes, sparseGet_put_ne (by omega)]
    exact ih (by omega)

theorem storeBytes_get_inside {w size a n k : Nat} {m : List Host.Cell} {v : BitVec w}
    (h : Memory.wf size m = true) (ha : a + n ≤ size) (hk : k < n) :
    sparseGet (storeBytes m a v n) (a + k) = v.extractLsb' (8 * k) 8 := by
  induction n with
  | zero => omega
  | succ n ih =>
    have hw := storeBytes_wf (v := v) h (show a + n ≤ size by omega)
    rw [storeBytes]
    by_cases hkn : k = n
    · subst hkn
      exact sparseGet_put_eq hw
    · rw [sparseGet_put_ne (by omega)]
      exact ih (by omega) (by omega)

/-- Byte `k` of a loaded value is the byte at address `a + k` (20_memory R53, R56). -/
theorem loadBytes_byte {m : List Host.Cell} {a n k : Nat} (hk : k < n) :
    (loadBytes m a n).extractLsb' (8 * k) 8 = sparseGet m (a + k) := by
  induction n with
  | zero => omega
  | succ n ih =>
    apply BitVec.eq_of_getLsbD_eq
    intro i hi
    simp only [loadBytes, BitVec.getLsbD_extractLsb', BitVec.getLsbD_cast, BitVec.getLsbD_append, hi,
      decide_true, Bool.true_and]
    by_cases hkn : k = n
    · subst hkn
      simp
    · have h1 : 8 * k + i < 8 * n := by omega
      simp only [h1, if_true]
      have := congrArg (fun v => v.getLsbD i) (ih (by omega))
      simpa [hi] using this

/-- Two loads agree where the bytes do. -/
theorem loadBytes_congr {m m' : List Host.Cell} {a n : Nat}
    (h : ∀ k, k < n → sparseGet m (a + k) = sparseGet m' (a + k)) :
    loadBytes m a n = loadBytes m' a n := by
  induction n with
  | zero => rfl
  | succ n ih => simp only [loadBytes, h n (by omega), ih (fun k hk => h k (by omega))]

/-- Read after write at the same place (20_memory R54). -/
theorem loadBytes_storeBytes {w size a n : Nat} {m : List Host.Cell} {v : BitVec w}
    (h : Memory.wf size m = true) (ha : a + n ≤ size) :
    loadBytes (storeBytes m a v n) a n = v.setWidth (8 * n) := by
  apply BitVec.eq_of_getLsbD_eq
  intro i hi
  have hb := loadBytes_byte (m := storeBytes m a v n) (a := a) (n := n) (k := i / 8) (by omega)
  rw [storeBytes_get_inside h ha (by omega)] at hb
  have := congrArg (fun v => v.getLsbD (i % 8)) hb
  have hm : i % 8 < 8 := by omega
  have hd : 8 * (i / 8) + i % 8 = i := by omega
  simp only [BitVec.getLsbD_extractLsb', hm, decide_true, Bool.true_and, hd] at this
  rw [this, BitVec.getLsbD_setWidth]
  simp [hi]

/-! ## The port (20_memory R52 to R55) -/

theorem memRead_eq_some {s : State} {a : Word} {n : Nat} {v : BitVec (8 * n)} :
    s.memRead a n = some v ↔
      (s.inRange a n = true ∧ v = loadBytes s.mem a.toNat n) ∨
      (s.inRange a n = false ∧ s.cfg.oobPolicy = .zero ∧ v = 0) := by
  unfold State.memRead
  cases h : s.inRange a n <;> cases hp : s.cfg.oobPolicy <;> simp only [Bool.false_eq_true, if_true, if_false, Option.some.injEq, reduceCtorEq, true_and, false_and, and_false, or_false, false_or] <;> exact eq_comm

theorem memRead_eq_none {s : State} {a : Word} {n : Nat} :
    s.memRead a n = none ↔ s.inRange a n = false ∧ s.cfg.oobPolicy = .trap := by
  unfold State.memRead
  cases h : s.inRange a n <;> cases hp : s.cfg.oobPolicy <;> simp

theorem memWrite_eq_some {w : Nat} {s t : State} {a : Word} {n : Nat} {v : BitVec w} :
    s.memWrite a n v = some t ↔
      (s.inRange a n = true ∧ t = { s with mem := storeBytes s.mem a.toNat v n }) ∨
      (s.inRange a n = false ∧ s.cfg.oobPolicy = .zero ∧ t = s) := by
  unfold State.memWrite
  cases h : s.inRange a n <;> cases hp : s.cfg.oobPolicy <;> simp only [Bool.false_eq_true, if_true, if_false, Option.some.injEq, reduceCtorEq, true_and, false_and, and_false, or_false, false_or] <;> exact eq_comm

theorem memWrite_eq_none {w : Nat} {s : State} {a : Word} {n : Nat} {v : BitVec w} :
    s.memWrite a n v = none ↔ s.inRange a n = false ∧ s.cfg.oobPolicy = .trap := by
  unfold State.memWrite
  cases h : s.inRange a n <;> cases hp : s.cfg.oobPolicy <;> simp

/-- A write changes memory only, and keeps its canonical form. -/
theorem memWrite_frame {w : Nat} {s t : State} {a : Word} {n : Nat} {v : BitVec w}
    (h : s.memWrite a n v = some t) :
    t = { s with mem := t.mem } ∧
      (Memory.wf s.cfg.memSize s.mem = true → Memory.wf s.cfg.memSize t.mem = true) := by
  rcases memWrite_eq_some.1 h with ⟨hr, rfl⟩ | ⟨_, _, rfl⟩
  · refine ⟨rfl, fun hw => storeBytes_wf hw ?_⟩
    simpa [State.inRange] using hr
  · exact ⟨rfl, id⟩

end Sys2Proof.Machine
end

