-- ==== Sys2Proof/Laws/Ops.lean ====
section
/-! SUPPORT. What each shared operation can do, once: registers, CSRs, the pc, traps, loads, stores and atomics. -/

namespace Sys2Proof.Machine

/-! ## XLEN-bit values -/

@[simp] theorem xzext_fits (xl : XLen) {n : Nat} (v : BitVec n) : fitsXlen xl (xzext xl v) := by
  cases xl <;> simp [fitsXlen, xzext, XLen.bits]

@[simp] theorem xsext_fits (xl : XLen) {n : Nat} (v : BitVec n) : fitsXlen xl (xsext xl v) := by
  cases xl <;> simp [fitsXlen, xzext, xsext, XLen.bits]

@[simp] theorem zero_fits (xl : XLen) : fitsXlen xl 0 := by
  cases xl <;> simp [fitsXlen, xzext, XLen.bits]

theorem xzext_xzext (xl : XLen) (v : Word) : xzext xl (xzext xl v) = xzext xl v := xzext_fits xl v

theorem xbin_fits (xl : XLen) (f : {w : Nat} → BitVec w → BitVec w → BitVec w) (a b : Word) :
    fitsXlen xl (xbin xl f a b) := by
  cases xl <;> simp [fitsXlen, xzext, xbin, XLen.bits]

/-! ## Integer registers (10_state R20) -/

theorem getX_congr {s t : State} (h : t.x = s.x) (r : RegIx) : t.getX r = s.getX r := by
  simp only [State.getX, h]

@[simp] theorem getX_zero (s : State) : s.getX 0#5 = 0#64 := rfl

theorem getX_setX (s : State) (r q : RegIx) (v : Word) :
    (s.setX r v).getX q = if q = r ∧ q ≠ 0 then xzext s.cfg.xlen v else s.getX q := by
  by_cases hq : q = 0
  · subst hq
    rw [if_neg (by simp)]
    rfl
  have hq' : (q = r ∧ q ≠ 0) ↔ q = r := and_iff_left hq
  simp only [State.getX, if_neg hq, hq']
  by_cases hr : r = 0
  · have hqr : q ≠ r := fun h => hq (h.trans hr)
    simp only [State.setX, if_pos hr, if_neg hqr]
  · simp only [State.setX, if_neg hr]
    by_cases hqr : q = r
    · subst hqr; simp
    · have : r.toNat ≠ q.toNat := fun h => hqr (BitVec.eq_of_toNat_eq h.symm)
      simp [hqr, this]

@[simp] theorem getX_setS (s : State) (r q : RegIx) (v : BitVec 32) :
    (s.setS r v).getX q = s.getX q := rfl
@[simp] theorem getX_setD (s : State) (r q : RegIx) (v : BitVec 64) :
    (s.setD r v).getX q = s.getX q := rfl
@[simp] theorem getX_setPc (s : State) (a : Word) (q : RegIx) : (s.setPc a).getX q = s.getX q := rfl
@[simp] theorem getX_advance (s : State) (n : Nat) (q : RegIx) :
    (s.advance n).getX q = s.getX q := rfl
@[simp] theorem getX_setCsr (s : State) (a : BitVec 12) (v : CsrWord) (q : RegIx) :
    (s.setCsr a v).getX q = s.getX q := getX_congr (by simp) q
@[simp] theorem getX_trap (s : State) (c : Cause) (q : RegIx) : (s.trap c).getX q = s.getX q :=
  getX_congr (by simp) q

theorem getX_retX (s : State) (len : Nat) (r q : RegIx) (v : Word) :
    (s.retX len r v).getX q = if q = r ∧ q ≠ 0 then xzext s.cfg.xlen v else s.getX q :=
  getX_setX s r q v

/-- `setX` and `retX` change x and the pc only. -/
theorem setX_frame (s : State) (r : RegIx) (v : Word) :
    s.setX r v = { s with x := (s.setX r v).x } := by
  unfold State.setX; split <;> rfl

theorem retX_frame (s : State) (len : Nat) (r : RegIx) (v : Word) :
    s.retX len r v = { s with x := (s.retX len r v).x, pc := (s.retX len r v).pc } := by
  rw [State.retX, State.advance, State.setPc, setX_frame]

@[simp] theorem retX_pc (s : State) (len : Nat) (r : RegIx) (v : Word) :
    (s.retX len r v).pc = xzext s.cfg.xlen (s.nextPc len) := by
  simp [State.retX, State.nextPc]

theorem nextPc_fits (s : State) (len : Nat) : fitsXlen s.cfg.xlen (s.nextPc len) :=
  xbin_fits _ _ _ _

/-! ## The FP banks (10_state R25) -/

theorem getS_setS (s : State) (r q : RegIx) (v : BitVec 32) :
    (s.setS r v).getS q = if q = r then v else s.getS q := by
  unfold State.setS State.getS
  by_cases hqr : q = r
  · subst hqr; simp
  · have : r.toNat ≠ q.toNat := fun h => hqr (BitVec.eq_of_toNat_eq h.symm)
    simp [hqr, this]

theorem getD_setD (s : State) (r q : RegIx) (v : BitVec 64) :
    (s.setD r v).getD q = if q = r then v else s.getD q := by
  unfold State.setD State.getD
  by_cases hqr : q = r
  · subst hqr; simp
  · have : r.toNat ≠ q.toNat := fun h => hqr (BitVec.eq_of_toNat_eq h.symm)
    simp [hqr, this]

/-! ## CSRs (10_state R27, R28) -/

/-- The address of a CSR is one of the seven live ones, or none of them. -/
theorem csr_cases (a : BitVec 12) :
    a = 0x100#12 ∨ a = 0x141#12 ∨ a = 0x142#12 ∨ a = 0x300#12 ∨ a = 0x305#12 ∨ a = 0x341#12 ∨
      a = 0x342#12 ∨ isLiveCsr a.toNat = false := by
  by_cases h : isLiveCsr a.toNat = true
  · simp only [isLiveCsr, Bool.or_eq_true, beq_iff_eq] at h
    rcases h with ((((((h | h) | h) | h) | h) | h) | h)
    all_goals have := BitVec.eq_of_toNat_eq (x := a) (y := BitVec.ofNat 12 a.toNat) (by simp)
    all_goals rw [h] at this
    all_goals simp [this]
  · simp at h; simp [h]

theorem isLiveCsr_ne {a : BitVec 12} (h : isLiveCsr a.toNat = false) :
    a ≠ 0x100#12 ∧ a ≠ 0x141#12 ∧ a ≠ 0x142#12 ∧ a ≠ 0x300#12 ∧ a ≠ 0x305#12 ∧ a ≠ 0x341#12 ∧
      a ≠ 0x342#12 := by
  refine ⟨?_, ?_, ?_, ?_, ?_, ?_, ?_⟩ <;> rintro rfl <;> simp [isLiveCsr] at h

theorem getCsr_inert {s : State} {a : BitVec 12} (h : isLiveCsr a.toNat = false) :
    s.getCsr a = sparseGet s.csrs a.toNat := by
  obtain ⟨h1, h2, h3, h4, h5, h6, h7⟩ := isLiveCsr_ne h
  unfold State.getCsr
  split <;> first | contradiction | rfl

theorem setCsr_inert {s : State} {a : BitVec 12} {v : CsrWord} (h : isLiveCsr a.toNat = false) :
    s.setCsr a v = { s with csrs := sparsePut s.csrs a.toNat v } := by
  obtain ⟨h1, h2, h3, h4, h5, h6, h7⟩ := isLiveCsr_ne h
  unfold State.setCsr
  split <;> first | contradiction | rfl

/-- A CSR reads back the value last written (10_state R27). -/
theorem getCsr_setCsr_eq {s : State} (h : csrsWf s.csrs = true) (a : BitVec 12) (v : CsrWord) :
    (s.setCsr a v).getCsr a = v := by
  rcases csr_cases a with rfl | rfl | rfl | rfl | rfl | rfl | rfl | ha
  all_goals try rfl
  rw [setCsr_inert ha, getCsr_inert ha]
  exact sparseGet_put_eq h

/-- Writing one CSR changes no other (10_state R27, R30). -/
theorem getCsr_setCsr_ne (s : State) {a b : BitVec 12} (h : b ≠ a) (v : CsrWord) :
    (s.setCsr a v).getCsr b = s.getCsr b := by
  rcases csr_cases a with rfl | rfl | rfl | rfl | rfl | rfl | rfl | ha
  case' inr.inr.inr.inr.inr.inr.inr =>
    rw [setCsr_inert ha]
    rcases csr_cases b with rfl | rfl | rfl | rfl | rfl | rfl | rfl | hb
    all_goals try rfl
    rw [getCsr_inert hb, getCsr_inert hb]
    exact sparseGet_put_ne fun hn => h (BitVec.eq_of_toNat_eq hn)
  all_goals
    rcases csr_cases b with rfl | rfl | rfl | rfl | rfl | rfl | rfl | hb
    all_goals first | exact absurd rfl h | rfl | (rw [getCsr_inert hb, getCsr_inert hb]; rfl)

/-! ## Loads, stores and atomics: every way they can end -/

/-- A load ends in its register write or in the access fault (43_load_store R240). -/
theorem loadX_cases (s : State) (len n : Nat) (ext : XLen → BitVec (8 * n) → Word) (rd rs1 : RegIx)
    (imm : BitVec 12) :
    (∃ v, s.memRead (s.ea rs1 imm) n = some v ∧
      s.loadX len n ext rd rs1 imm = s.retX len rd (ext s.cfg.xlen v)) ∨
    (s.memRead (s.ea rs1 imm) n = none ∧ s.loadX len n ext rd rs1 imm = s.trap .loadAccess) := by
  unfold State.loadX
  cases h : s.memRead (s.ea rs1 imm) n <;> simp

/-- A store ends in its memory write or in the access fault (43_load_store R240). -/
theorem storeVal_cases {w : Nat} (s : State) (len n : Nat) (v : BitVec w) (rs1 : RegIx)
    (imm : BitVec 12) :
    (∃ t, s.memWrite (s.ea rs1 imm) n v = some t ∧ s.storeVal len n v rs1 imm = t.advance len) ∨
    (s.memWrite (s.ea rs1 imm) n v = none ∧ s.storeVal len n v rs1 imm = s.trap .storeAccess) := by
  unfold State.storeVal
  cases h : s.memWrite (s.ea rs1 imm) n v <;> simp

/-- LR ends in its register write with the reservation set, or in the access fault (46_atomic R311). -/
theorem loadReserved_cases (s : State) (n : Nat) (rd rs1 : RegIx) :
    (∃ v, s.memRead (s.getX rs1) n = some v ∧
      s.loadReserved n rd rs1 =
        State.retX { s with resvAddr := s.getX rs1, resvValid := true } 4 rd (xsext s.cfg.xlen v)) ∨
    (s.memRead (s.getX rs1) n = none ∧ s.loadReserved n rd rs1 = s.trap .loadAccess) := by
  unfold State.loadReserved
  cases h : s.memRead (s.getX rs1) n <;> simp

/-- SC succeeds, faults or fails (46_atomic R312). -/
theorem storeConditional_cases (s : State) (n : Nat) (rd rs1 rs2 : RegIx) :
    (s.resvValid = true ∧ s.resvAddr = s.getX rs1 ∧
      ((∃ t, s.memWrite (s.getX rs1) n (s.getX rs2) = some t ∧
        s.storeConditional n rd rs1 rs2 = State.retX { t with resvValid := false } 4 rd 0) ∨
      (s.memWrite (s.getX rs1) n (s.getX rs2) = none ∧
        s.storeConditional n rd rs1 rs2 = s.trap .storeAccess))) ∨
    (¬(s.resvValid = true ∧ s.resvAddr = s.getX rs1) ∧
      s.storeConditional n rd rs1 rs2 = State.retX { s with resvValid := false } 4 rd 1) := by
  unfold State.storeConditional
  by_cases h : s.resvValid = true ∧ s.resvAddr = s.getX rs1
  · left
    refine ⟨h.1, h.2, ?_⟩
    simp only [h.1, h.2, beq_self_eq_true, Bool.and_self, if_true]
    cases s.memWrite (s.getX rs1) n (s.getX rs2) <;> simp
  · right
    refine ⟨h, ?_⟩
    have : (s.resvValid && s.resvAddr == s.getX rs1) = false := by simpa using h
    simp [this]

/-- An AMO reads and writes, or faults as a store (46_atomic R310). -/
theorem amo_cases (s : State) (n : Nat) (op : BitVec (8 * n) → BitVec (8 * n) → BitVec (8 * n))
    (rd rs1 rs2 : RegIx) :
    (∃ old t, s.memRead (s.getX rs1) n = some old ∧
      s.memWrite (s.getX rs1) n (op old ((s.getX rs2).setWidth (8 * n))) = some t ∧
      s.amo n op rd rs1 rs2 = t.retX 4 rd (xsext s.cfg.xlen old)) ∨
    (s.memRead (s.getX rs1) n = none ∧ s.amo n op rd rs1 rs2 = s.trap .storeAccess) := by
  unfold State.amo
  cases h : s.memRead (s.getX rs1) n with
  | none => simp
  | some old =>
    left
    cases hw : s.memWrite (s.getX rs1) n (op old ((s.getX rs2).setWidth (8 * n))) with
    | none =>
      have h1 := memWrite_eq_none.1 hw
      have h2 := memRead_eq_none.2 h1
      rw [h] at h2
      exact absurd h2 (by simp)
    | some t => exact ⟨old, t, rfl, hw, by simp only [hw]⟩

end Sys2Proof.Machine
end

