-- ==== Sys2Proof/Laws/PerInstr.lean ====
section
/-! SUPPORT. Laws that hold of every instruction as syntax, one lemma per constructor. -/

namespace Sys2Proof.Laws

/-- A well-formed instruction expands to a well-formed instruction that is no compressed one
(40_compressed R120, R166). -/
def Expansion.Statement (i : Instr) : Prop :=
  ∀ xl : XLen, i.wf xl = true → i.expansion.isCompressed = false ∧ i.expansion.wf xl = true

/-- The encoded word has the length of its instruction (30_encoding R71). -/
def Length.Statement (i : Instr) : Prop := isCompressed (encode i) = i.isCompressed

/-! ## Expansion -/

theorem wf_of_avail (i : Instr) {j : Instr} {xl : XLen} (ha : j.avail = i.avail)
    (hf : i.fieldsOk xl = true → j.fieldsOk xl = true) (h : i.wf xl = true) : j.wf xl = true := by
  simp only [Instr.wf, Instr.existsAt, Bool.and_eq_true, ha] at h ⊢
  exact ⟨h.1, hf h.2⟩

theorem wf_of_both (i : Instr) {j : Instr} {xl : XLen} (ha : j.avail = .both)
    (hf : i.fieldsOk xl = true → j.fieldsOk xl = true) (h : i.wf xl = true) : j.wf xl = true := by
  simp only [Instr.wf, Instr.existsAt, Bool.and_eq_true, ha] at h ⊢
  exact ⟨trivial, hf h.2⟩

theorem Expansion.lui (rd : RegIx) (imm : BitVec 20) :
    Expansion.Statement (.lui rd imm) := fun _ h => ⟨rfl, h⟩
theorem Expansion.auipc (rd : RegIx) (imm : BitVec 20) :
    Expansion.Statement (.auipc rd imm) := fun _ h => ⟨rfl, h⟩
theorem Expansion.jal (rd : RegIx) (off : BitVec 20) :
    Expansion.Statement (.jal rd off) := fun _ h => ⟨rfl, h⟩
theorem Expansion.jalr (rd rs1 : RegIx) (imm : BitVec 12) :
    Expansion.Statement (.jalr rd rs1 imm) := fun _ h => ⟨rfl, h⟩
theorem Expansion.beq (rs1 rs2 : RegIx) (off : BitVec 12) :
    Expansion.Statement (.beq rs1 rs2 off) := fun _ h => ⟨rfl, h⟩
theorem Expansion.bne (rs1 rs2 : RegIx) (off : BitVec 12) :
    Expansion.Statement (.bne rs1 rs2 off) := fun _ h => ⟨rfl, h⟩
theorem Expansion.blt (rs1 rs2 : RegIx) (off : BitVec 12) :
    Expansion.Statement (.blt rs1 rs2 off) := fun _ h => ⟨rfl, h⟩
theorem Expansion.bge (rs1 rs2 : RegIx) (off : BitVec 12) :
    Expansion.Statement (.bge rs1 rs2 off) := fun _ h => ⟨rfl, h⟩
theorem Expansion.bltu (rs1 rs2 : RegIx) (off : BitVec 12) :
    Expansion.Statement (.bltu rs1 rs2 off) := fun _ h => ⟨rfl, h⟩
theorem Expansion.bgeu (rs1 rs2 : RegIx) (off : BitVec 12) :
    Expansion.Statement (.bgeu rs1 rs2 off) := fun _ h => ⟨rfl, h⟩
theorem Expansion.lb (rd rs1 : RegIx) (imm : BitVec 12) :
    Expansion.Statement (.lb rd rs1 imm) := fun _ h => ⟨rfl, h⟩
theorem Expansion.lh (rd rs1 : RegIx) (imm : BitVec 12) :
    Expansion.Statement (.lh rd rs1 imm) := fun _ h => ⟨rfl, h⟩
theorem Expansion.lw (rd rs1 : RegIx) (imm : BitVec 12) :
    Expansion.Statement (.lw rd rs1 imm) := fun _ h => ⟨rfl, h⟩
theorem Expansion.ld (rd rs1 : RegIx) (imm : BitVec 12) :
    Expansion.Statement (.ld rd rs1 imm) := fun _ h => ⟨rfl, h⟩
theorem Expansion.lbu (rd rs1 : RegIx) (imm : BitVec 12) :
    Expansion.Statement (.lbu rd rs1 imm) := fun _ h => ⟨rfl, h⟩
theorem Expansion.lhu (rd rs1 : RegIx) (imm : BitVec 12) :
    Expansion.Statement (.lhu rd rs1 imm) := fun _ h => ⟨rfl, h⟩
theorem Expansion.lwu (rd rs1 : RegIx) (imm : BitVec 12) :
    Expansion.Statement (.lwu rd rs1 imm) := fun _ h => ⟨rfl, h⟩
theorem Expansion.sb (rs1 rs2 : RegIx) (imm : BitVec 12) :
    Expansion.Statement (.sb rs1 rs2 imm) := fun _ h => ⟨rfl, h⟩
theorem Expansion.sh (rs1 rs2 : RegIx) (imm : BitVec 12) :
    Expansion.Statement (.sh rs1 rs2 imm) := fun _ h => ⟨rfl, h⟩
theorem Expansion.sw (rs1 rs2 : RegIx) (imm : BitVec 12) :
    Expansion.Statement (.sw rs1 rs2 imm) := fun _ h => ⟨rfl, h⟩
theorem Expansion.sd (rs1 rs2 : RegIx) (imm : BitVec 12) :
    Expansion.Statement (.sd rs1 rs2 imm) := fun _ h => ⟨rfl, h⟩
theorem Expansion.addi (rd rs1 : RegIx) (imm : BitVec 12) :
    Expansion.Statement (.addi rd rs1 imm) := fun _ h => ⟨rfl, h⟩
theorem Expansion.slti (rd rs1 : RegIx) (imm : BitVec 12) :
    Expansion.Statement (.slti rd rs1 imm) := fun _ h => ⟨rfl, h⟩
theorem Expansion.sltiu (rd rs1 : RegIx) (imm : BitVec 12) :
    Expansion.Statement (.sltiu rd rs1 imm) := fun _ h => ⟨rfl, h⟩
theorem Expansion.xori (rd rs1 : RegIx) (imm : BitVec 12) :
    Expansion.Statement (.xori rd rs1 imm) := fun _ h => ⟨rfl, h⟩
theorem Expansion.ori (rd rs1 : RegIx) (imm : BitVec 12) :
    Expansion.Statement (.ori rd rs1 imm) := fun _ h => ⟨rfl, h⟩
theorem Expansion.andi (rd rs1 : RegIx) (imm : BitVec 12) :
    Expansion.Statement (.andi rd rs1 imm) := fun _ h => ⟨rfl, h⟩
theorem Expansion.slli (rd rs1 : RegIx) (shamt : BitVec 6) :
    Expansion.Statement (.slli rd rs1 shamt) := fun _ h => ⟨rfl, h⟩
theorem Expansion.srli (rd rs1 : RegIx) (shamt : BitVec 6) :
    Expansion.Statement (.srli rd rs1 shamt) := fun _ h => ⟨rfl, h⟩
theorem Expansion.srai (rd rs1 : RegIx) (shamt : BitVec 6) :
    Expansion.Statement (.srai rd rs1 shamt) := fun _ h => ⟨rfl, h⟩
theorem Expansion.add (rd rs1 rs2 : RegIx) :
    Expansion.Statement (.add rd rs1 rs2) := fun _ h => ⟨rfl, h⟩
theorem Expansion.sub (rd rs1 rs2 : RegIx) :
    Expansion.Statement (.sub rd rs1 rs2) := fun _ h => ⟨rfl, h⟩
theorem Expansion.sll (rd rs1 rs2 : RegIx) :
    Expansion.Statement (.sll rd rs1 rs2) := fun _ h => ⟨rfl, h⟩
theorem Expansion.slt (rd rs1 rs2 : RegIx) :
    Expansion.Statement (.slt rd rs1 rs2) := fun _ h => ⟨rfl, h⟩
theorem Expansion.sltu (rd rs1 rs2 : RegIx) :
    Expansion.Statement (.sltu rd rs1 rs2) := fun _ h => ⟨rfl, h⟩
theorem Expansion.xor (rd rs1 rs2 : RegIx) :
    Expansion.Statement (.xor rd rs1 rs2) := fun _ h => ⟨rfl, h⟩
theorem Expansion.srl (rd rs1 rs2 : RegIx) :
    Expansion.Statement (.srl rd rs1 rs2) := fun _ h => ⟨rfl, h⟩
theorem Expansion.sra (rd rs1 rs2 : RegIx) :
    Expansion.Statement (.sra rd rs1 rs2) := fun _ h => ⟨rfl, h⟩
theorem Expansion.or (rd rs1 rs2 : RegIx) :
    Expansion.Statement (.or rd rs1 rs2) := fun _ h => ⟨rfl, h⟩
theorem Expansion.and (rd rs1 rs2 : RegIx) :
    Expansion.Statement (.and rd rs1 rs2) := fun _ h => ⟨rfl, h⟩
theorem Expansion.fence (fm pred succ : BitVec 4) (rs1 rd : RegIx) :
    Expansion.Statement (.fence fm pred succ rs1 rd) := fun _ h => ⟨rfl, h⟩
theorem Expansion.fenceI (imm : BitVec 12) (rs1 rd : RegIx) :
    Expansion.Statement (.fenceI imm rs1 rd) := fun _ h => ⟨rfl, h⟩
theorem Expansion.ecall (rs1 rd : RegIx) :
    Expansion.Statement (.ecall rs1 rd) := fun _ h => ⟨rfl, h⟩
theorem Expansion.ebreak (rs1 rd : RegIx) :
    Expansion.Statement (.ebreak rs1 rd) := fun _ h => ⟨rfl, h⟩
theorem Expansion.uret (rs1 rd : RegIx) :
    Expansion.Statement (.uret rs1 rd) := fun _ h => ⟨rfl, h⟩
theorem Expansion.sret (rs1 rd : RegIx) :
    Expansion.Statement (.sret rs1 rd) := fun _ h => ⟨rfl, h⟩
theorem Expansion.mret (rs1 rd : RegIx) :
    Expansion.Statement (.mret rs1 rd) := fun _ h => ⟨rfl, h⟩
theorem Expansion.wfi (rs1 rd : RegIx) :
    Expansion.Statement (.wfi rs1 rd) := fun _ h => ⟨rfl, h⟩
theorem Expansion.sfenceVma (rs1 rs2 rd : RegIx) :
    Expansion.Statement (.sfenceVma rs1 rs2 rd) := fun _ h => ⟨rfl, h⟩
theorem Expansion.csrrw (rd : RegIx) (csr : BitVec 12) (rs1 : RegIx) :
    Expansion.Statement (.csrrw rd csr rs1) := fun _ h => ⟨rfl, h⟩
theorem Expansion.csrrs (rd : RegIx) (csr : BitVec 12) (rs1 : RegIx) :
    Expansion.Statement (.csrrs rd csr rs1) := fun _ h => ⟨rfl, h⟩
theorem Expansion.csrrc (rd : RegIx) (csr : BitVec 12) (rs1 : RegIx) :
    Expansion.Statement (.csrrc rd csr rs1) := fun _ h => ⟨rfl, h⟩
theorem Expansion.csrrwi (rd : RegIx) (csr : BitVec 12) (zimm : BitVec 5) :
    Expansion.Statement (.csrrwi rd csr zimm) := fun _ h => ⟨rfl, h⟩
theorem Expansion.csrrsi (rd : RegIx) (csr : BitVec 12) (zimm : BitVec 5) :
    Expansion.Statement (.csrrsi rd csr zimm) := fun _ h => ⟨rfl, h⟩
theorem Expansion.csrrci (rd : RegIx) (csr : BitVec 12) (zimm : BitVec 5) :
    Expansion.Statement (.csrrci rd csr zimm) := fun _ h => ⟨rfl, h⟩
theorem Expansion.mul (rd rs1 rs2 : RegIx) :
    Expansion.Statement (.mul rd rs1 rs2) := fun _ h => ⟨rfl, h⟩
theorem Expansion.mulh (rd rs1 rs2 : RegIx) :
    Expansion.Statement (.mulh rd rs1 rs2) := fun _ h => ⟨rfl, h⟩
theorem Expansion.mulhsu (rd rs1 rs2 : RegIx) :
    Expansion.Statement (.mulhsu rd rs1 rs2) := fun _ h => ⟨rfl, h⟩
theorem Expansion.mulhu (rd rs1 rs2 : RegIx) :
    Expansion.Statement (.mulhu rd rs1 rs2) := fun _ h => ⟨rfl, h⟩
theorem Expansion.div (rd rs1 rs2 : RegIx) :
    Expansion.Statement (.div rd rs1 rs2) := fun _ h => ⟨rfl, h⟩
theorem Expansion.divu (rd rs1 rs2 : RegIx) :
    Expansion.Statement (.divu rd rs1 rs2) := fun _ h => ⟨rfl, h⟩
theorem Expansion.rem (rd rs1 rs2 : RegIx) :
    Expansion.Statement (.rem rd rs1 rs2) := fun _ h => ⟨rfl, h⟩
theorem Expansion.remu (rd rs1 rs2 : RegIx) :
    Expansion.Statement (.remu rd rs1 rs2) := fun _ h => ⟨rfl, h⟩
theorem Expansion.addiw (rd rs1 : RegIx) (imm : BitVec 12) :
    Expansion.Statement (.addiw rd rs1 imm) := fun _ h => ⟨rfl, h⟩
theorem Expansion.slliw (rd rs1 : RegIx) (shamt : BitVec 5) :
    Expansion.Statement (.slliw rd rs1 shamt) := fun _ h => ⟨rfl, h⟩
theorem Expansion.srliw (rd rs1 : RegIx) (shamt : BitVec 5) :
    Expansion.Statement (.srliw rd rs1 shamt) := fun _ h => ⟨rfl, h⟩
theorem Expansion.sraiw (rd rs1 : RegIx) (shamt : BitVec 5) :
    Expansion.Statement (.sraiw rd rs1 shamt) := fun _ h => ⟨rfl, h⟩
theorem Expansion.addw (rd rs1 rs2 : RegIx) :
    Expansion.Statement (.addw rd rs1 rs2) := fun _ h => ⟨rfl, h⟩
theorem Expansion.subw (rd rs1 rs2 : RegIx) :
    Expansion.Statement (.subw rd rs1 rs2) := fun _ h => ⟨rfl, h⟩
theorem Expansion.sllw (rd rs1 rs2 : RegIx) :
    Expansion.Statement (.sllw rd rs1 rs2) := fun _ h => ⟨rfl, h⟩
theorem Expansion.srlw (rd rs1 rs2 : RegIx) :
    Expansion.Statement (.srlw rd rs1 rs2) := fun _ h => ⟨rfl, h⟩
theorem Expansion.sraw (rd rs1 rs2 : RegIx) :
    Expansion.Statement (.sraw rd rs1 rs2) := fun _ h => ⟨rfl, h⟩
theorem Expansion.mulw (rd rs1 rs2 : RegIx) :
    Expansion.Statement (.mulw rd rs1 rs2) := fun _ h => ⟨rfl, h⟩
theorem Expansion.divw (rd rs1 rs2 : RegIx) :
    Expansion.Statement (.divw rd rs1 rs2) := fun _ h => ⟨rfl, h⟩
theorem Expansion.divuw (rd rs1 rs2 : RegIx) :
    Expansion.Statement (.divuw rd rs1 rs2) := fun _ h => ⟨rfl, h⟩
theorem Expansion.remw (rd rs1 rs2 : RegIx) :
    Expansion.Statement (.remw rd rs1 rs2) := fun _ h => ⟨rfl, h⟩
theorem Expansion.remuw (rd rs1 rs2 : RegIx) :
    Expansion.Statement (.remuw rd rs1 rs2) := fun _ h => ⟨rfl, h⟩
theorem Expansion.lrW (rd rs1 rs2 : RegIx) (aq rl : BitVec 1) :
    Expansion.Statement (.lrW rd rs1 rs2 aq rl) := fun _ h => ⟨rfl, h⟩
theorem Expansion.scW (rd rs1 rs2 : RegIx) (aq rl : BitVec 1) :
    Expansion.Statement (.scW rd rs1 rs2 aq rl) := fun _ h => ⟨rfl, h⟩
theorem Expansion.amoswapW (rd rs1 rs2 : RegIx) (aq rl : BitVec 1) :
    Expansion.Statement (.amoswapW rd rs1 rs2 aq rl) := fun _ h => ⟨rfl, h⟩
theorem Expansion.amoaddW (rd rs1 rs2 : RegIx) (aq rl : BitVec 1) :
    Expansion.Statement (.amoaddW rd rs1 rs2 aq rl) := fun _ h => ⟨rfl, h⟩
theorem Expansion.amoxorW (rd rs1 rs2 : RegIx) (aq rl : BitVec 1) :
    Expansion.Statement (.amoxorW rd rs1 rs2 aq rl) := fun _ h => ⟨rfl, h⟩
theorem Expansion.amoandW (rd rs1 rs2 : RegIx) (aq rl : BitVec 1) :
    Expansion.Statement (.amoandW rd rs1 rs2 aq rl) := fun _ h => ⟨rfl, h⟩
theorem Expansion.amoorW (rd rs1 rs2 : RegIx) (aq rl : BitVec 1) :
    Expansion.Statement (.amoorW rd rs1 rs2 aq rl) := fun _ h => ⟨rfl, h⟩
theorem Expansion.amominW (rd rs1 rs2 : RegIx) (aq rl : BitVec 1) :
    Expansion.Statement (.amominW rd rs1 rs2 aq rl) := fun _ h => ⟨rfl, h⟩
theorem Expansion.amomaxW (rd rs1 rs2 : RegIx) (aq rl : BitVec 1) :
    Expansion.Statement (.amomaxW rd rs1 rs2 aq rl) := fun _ h => ⟨rfl, h⟩
theorem Expansion.amominuW (rd rs1 rs2 : RegIx) (aq rl : BitVec 1) :
    Expansion.Statement (.amominuW rd rs1 rs2 aq rl) := fun _ h => ⟨rfl, h⟩
theorem Expansion.amomaxuW (rd rs1 rs2 : RegIx) (aq rl : BitVec 1) :
    Expansion.Statement (.amomaxuW rd rs1 rs2 aq rl) := fun _ h => ⟨rfl, h⟩
theorem Expansion.lrD (rd rs1 rs2 : RegIx) (aq rl : BitVec 1) :
    Expansion.Statement (.lrD rd rs1 rs2 aq rl) := fun _ h => ⟨rfl, h⟩
theorem Expansion.scD (rd rs1 rs2 : RegIx) (aq rl : BitVec 1) :
    Expansion.Statement (.scD rd rs1 rs2 aq rl) := fun _ h => ⟨rfl, h⟩
theorem Expansion.amoswapD (rd rs1 rs2 : RegIx) (aq rl : BitVec 1) :
    Expansion.Statement (.amoswapD rd rs1 rs2 aq rl) := fun _ h => ⟨rfl, h⟩
theorem Expansion.amoaddD (rd rs1 rs2 : RegIx) (aq rl : BitVec 1) :
    Expansion.Statement (.amoaddD rd rs1 rs2 aq rl) := fun _ h => ⟨rfl, h⟩
theorem Expansion.amoxorD (rd rs1 rs2 : RegIx) (aq rl : BitVec 1) :
    Expansion.Statement (.amoxorD rd rs1 rs2 aq rl) := fun _ h => ⟨rfl, h⟩
theorem Expansion.amoandD (rd rs1 rs2 : RegIx) (aq rl : BitVec 1) :
    Expansion.Statement (.amoandD rd rs1 rs2 aq rl) := fun _ h => ⟨rfl, h⟩
theorem Expansion.amoorD (rd rs1 rs2 : RegIx) (aq rl : BitVec 1) :
    Expansion.Statement (.amoorD rd rs1 rs2 aq rl) := fun _ h => ⟨rfl, h⟩
theorem Expansion.amominD (rd rs1 rs2 : RegIx) (aq rl : BitVec 1) :
    Expansion.Statement (.amominD rd rs1 rs2 aq rl) := fun _ h => ⟨rfl, h⟩
theorem Expansion.amomaxD (rd rs1 rs2 : RegIx) (aq rl : BitVec 1) :
    Expansion.Statement (.amomaxD rd rs1 rs2 aq rl) := fun _ h => ⟨rfl, h⟩
theorem Expansion.amominuD (rd rs1 rs2 : RegIx) (aq rl : BitVec 1) :
    Expansion.Statement (.amominuD rd rs1 rs2 aq rl) := fun _ h => ⟨rfl, h⟩
theorem Expansion.amomaxuD (rd rs1 rs2 : RegIx) (aq rl : BitVec 1) :
    Expansion.Statement (.amomaxuD rd rs1 rs2 aq rl) := fun _ h => ⟨rfl, h⟩
theorem Expansion.flw (rd rs1 : RegIx) (imm : BitVec 12) :
    Expansion.Statement (.flw rd rs1 imm) := fun _ h => ⟨rfl, h⟩
theorem Expansion.fld (rd rs1 : RegIx) (imm : BitVec 12) :
    Expansion.Statement (.fld rd rs1 imm) := fun _ h => ⟨rfl, h⟩
theorem Expansion.fsw (rs1 rs2 : RegIx) (imm : BitVec 12) :
    Expansion.Statement (.fsw rs1 rs2 imm) := fun _ h => ⟨rfl, h⟩
theorem Expansion.fsd (rs1 rs2 : RegIx) (imm : BitVec 12) :
    Expansion.Statement (.fsd rs1 rs2 imm) := fun _ h => ⟨rfl, h⟩
theorem Expansion.fmaddS (rd rs1 rs2 rs3 : RegIx) (rm : Rm) :
    Expansion.Statement (.fmaddS rd rs1 rs2 rs3 rm) := fun _ h => ⟨rfl, h⟩
theorem Expansion.fmsubS (rd rs1 rs2 rs3 : RegIx) (rm : Rm) :
    Expansion.Statement (.fmsubS rd rs1 rs2 rs3 rm) := fun _ h => ⟨rfl, h⟩
theorem Expansion.fnmsubS (rd rs1 rs2 rs3 : RegIx) (rm : Rm) :
    Expansion.Statement (.fnmsubS rd rs1 rs2 rs3 rm) := fun _ h => ⟨rfl, h⟩
theorem Expansion.fnmaddS (rd rs1 rs2 rs3 : RegIx) (rm : Rm) :
    Expansion.Statement (.fnmaddS rd rs1 rs2 rs3 rm) := fun _ h => ⟨rfl, h⟩
theorem Expansion.faddS (rd rs1 rs2 : RegIx) (rm : Rm) :
    Expansion.Statement (.faddS rd rs1 rs2 rm) := fun _ h => ⟨rfl, h⟩
theorem Expansion.fsubS (rd rs1 rs2 : RegIx) (rm : Rm) :
    Expansion.Statement (.fsubS rd rs1 rs2 rm) := fun _ h => ⟨rfl, h⟩
theorem Expansion.fmulS (rd rs1 rs2 : RegIx) (rm : Rm) :
    Expansion.Statement (.fmulS rd rs1 rs2 rm) := fun _ h => ⟨rfl, h⟩
theorem Expansion.fdivS (rd rs1 rs2 : RegIx) (rm : Rm) :
    Expansion.Statement (.fdivS rd rs1 rs2 rm) := fun _ h => ⟨rfl, h⟩
theorem Expansion.fsqrtS (rd rs1 : RegIx) (rm : Rm) :
    Expansion.Statement (.fsqrtS rd rs1 rm) := fun _ h => ⟨rfl, h⟩
theorem Expansion.fsgnjS (rd rs1 rs2 : RegIx) :
    Expansion.Statement (.fsgnjS rd rs1 rs2) := fun _ h => ⟨rfl, h⟩
theorem Expansion.fsgnjnS (rd rs1 rs2 : RegIx) :
    Expansion.Statement (.fsgnjnS rd rs1 rs2) := fun _ h => ⟨rfl, h⟩
theorem Expansion.fsgnjxS (rd rs1 rs2 : RegIx) :
    Expansion.Statement (.fsgnjxS rd rs1 rs2) := fun _ h => ⟨rfl, h⟩
theorem Expansion.fminS (rd rs1 rs2 : RegIx) :
    Expansion.Statement (.fminS rd rs1 rs2) := fun _ h => ⟨rfl, h⟩
theorem Expansion.fmaxS (rd rs1 rs2 : RegIx) :
    Expansion.Statement (.fmaxS rd rs1 rs2) := fun _ h => ⟨rfl, h⟩
theorem Expansion.fleS (rd rs1 rs2 : RegIx) :
    Expansion.Statement (.fleS rd rs1 rs2) := fun _ h => ⟨rfl, h⟩
theorem Expansion.fltS (rd rs1 rs2 : RegIx) :
    Expansion.Statement (.fltS rd rs1 rs2) := fun _ h => ⟨rfl, h⟩
theorem Expansion.feqS (rd rs1 rs2 : RegIx) :
    Expansion.Statement (.feqS rd rs1 rs2) := fun _ h => ⟨rfl, h⟩
theorem Expansion.fcvtWS (rd rs1 : RegIx) (rm : Rm) :
    Expansion.Statement (.fcvtWS rd rs1 rm) := fun _ h => ⟨rfl, h⟩
theorem Expansion.fcvtWuS (rd rs1 : RegIx) (rm : Rm) :
    Expansion.Statement (.fcvtWuS rd rs1 rm) := fun _ h => ⟨rfl, h⟩
theorem Expansion.fcvtLS (rd rs1 : RegIx) (rm : Rm) :
    Expansion.Statement (.fcvtLS rd rs1 rm) := fun _ h => ⟨rfl, h⟩
theorem Expansion.fcvtLuS (rd rs1 : RegIx) (rm : Rm) :
    Expansion.Statement (.fcvtLuS rd rs1 rm) := fun _ h => ⟨rfl, h⟩
theorem Expansion.fcvtSW (rd rs1 : RegIx) (rm : Rm) :
    Expansion.Statement (.fcvtSW rd rs1 rm) := fun _ h => ⟨rfl, h⟩
theorem Expansion.fcvtSWu (rd rs1 : RegIx) (rm : Rm) :
    Expansion.Statement (.fcvtSWu rd rs1 rm) := fun _ h => ⟨rfl, h⟩
theorem Expansion.fcvtSL (rd rs1 : RegIx) (rm : Rm) :
    Expansion.Statement (.fcvtSL rd rs1 rm) := fun _ h => ⟨rfl, h⟩
theorem Expansion.fcvtSLu (rd rs1 : RegIx) (rm : Rm) :
    Expansion.Statement (.fcvtSLu rd rs1 rm) := fun _ h => ⟨rfl, h⟩
theorem Expansion.fclassS (rd rs1 : RegIx) :
    Expansion.Statement (.fclassS rd rs1) := fun _ h => ⟨rfl, h⟩
theorem Expansion.fmvXW (rd rs1 : RegIx) :
    Expansion.Statement (.fmvXW rd rs1) := fun _ h => ⟨rfl, h⟩
theorem Expansion.fmvWX (rd rs1 : RegIx) :
    Expansion.Statement (.fmvWX rd rs1) := fun _ h => ⟨rfl, h⟩
theorem Expansion.fmaddD (rd rs1 rs2 rs3 : RegIx) (rm : Rm) :
    Expansion.Statement (.fmaddD rd rs1 rs2 rs3 rm) := fun _ h => ⟨rfl, h⟩
theorem Expansion.fmsubD (rd rs1 rs2 rs3 : RegIx) (rm : Rm) :
    Expansion.Statement (.fmsubD rd rs1 rs2 rs3 rm) := fun _ h => ⟨rfl, h⟩
theorem Expansion.fnmsubD (rd rs1 rs2 rs3 : RegIx) (rm : Rm) :
    Expansion.Statement (.fnmsubD rd rs1 rs2 rs3 rm) := fun _ h => ⟨rfl, h⟩
theorem Expansion.fnmaddD (rd rs1 rs2 rs3 : RegIx) (rm : Rm) :
    Expansion.Statement (.fnmaddD rd rs1 rs2 rs3 rm) := fun _ h => ⟨rfl, h⟩
theorem Expansion.faddD (rd rs1 rs2 : RegIx) (rm : Rm) :
    Expansion.Statement (.faddD rd rs1 rs2 rm) := fun _ h => ⟨rfl, h⟩
theorem Expansion.fsubD (rd rs1 rs2 : RegIx) (rm : Rm) :
    Expansion.Statement (.fsubD rd rs1 rs2 rm) := fun _ h => ⟨rfl, h⟩
theorem Expansion.fmulD (rd rs1 rs2 : RegIx) (rm : Rm) :
    Expansion.Statement (.fmulD rd rs1 rs2 rm) := fun _ h => ⟨rfl, h⟩
theorem Expansion.fdivD (rd rs1 rs2 : RegIx) (rm : Rm) :
    Expansion.Statement (.fdivD rd rs1 rs2 rm) := fun _ h => ⟨rfl, h⟩
theorem Expansion.fsqrtD (rd rs1 : RegIx) (rm : Rm) :
    Expansion.Statement (.fsqrtD rd rs1 rm) := fun _ h => ⟨rfl, h⟩
theorem Expansion.fsgnjD (rd rs1 rs2 : RegIx) :
    Expansion.Statement (.fsgnjD rd rs1 rs2) := fun _ h => ⟨rfl, h⟩
theorem Expansion.fsgnjnD (rd rs1 rs2 : RegIx) :
    Expansion.Statement (.fsgnjnD rd rs1 rs2) := fun _ h => ⟨rfl, h⟩
theorem Expansion.fsgnjxD (rd rs1 rs2 : RegIx) :
    Expansion.Statement (.fsgnjxD rd rs1 rs2) := fun _ h => ⟨rfl, h⟩
theorem Expansion.fminD (rd rs1 rs2 : RegIx) :
    Expansion.Statement (.fminD rd rs1 rs2) := fun _ h => ⟨rfl, h⟩
theorem Expansion.fmaxD (rd rs1 rs2 : RegIx) :
    Expansion.Statement (.fmaxD rd rs1 rs2) := fun _ h => ⟨rfl, h⟩
theorem Expansion.fleD (rd rs1 rs2 : RegIx) :
    Expansion.Statement (.fleD rd rs1 rs2) := fun _ h => ⟨rfl, h⟩
theorem Expansion.fltD (rd rs1 rs2 : RegIx) :
    Expansion.Statement (.fltD rd rs1 rs2) := fun _ h => ⟨rfl, h⟩
theorem Expansion.feqD (rd rs1 rs2 : RegIx) :
    Expansion.Statement (.feqD rd rs1 rs2) := fun _ h => ⟨rfl, h⟩
theorem Expansion.fcvtWD (rd rs1 : RegIx) (rm : Rm) :
    Expansion.Statement (.fcvtWD rd rs1 rm) := fun _ h => ⟨rfl, h⟩
theorem Expansion.fcvtWuD (rd rs1 : RegIx) (rm : Rm) :
    Expansion.Statement (.fcvtWuD rd rs1 rm) := fun _ h => ⟨rfl, h⟩
theorem Expansion.fcvtLD (rd rs1 : RegIx) (rm : Rm) :
    Expansion.Statement (.fcvtLD rd rs1 rm) := fun _ h => ⟨rfl, h⟩
theorem Expansion.fcvtLuD (rd rs1 : RegIx) (rm : Rm) :
    Expansion.Statement (.fcvtLuD rd rs1 rm) := fun _ h => ⟨rfl, h⟩
theorem Expansion.fcvtDW (rd rs1 : RegIx) (rm : Rm) :
    Expansion.Statement (.fcvtDW rd rs1 rm) := fun _ h => ⟨rfl, h⟩
theorem Expansion.fcvtDWu (rd rs1 : RegIx) (rm : Rm) :
    Expansion.Statement (.fcvtDWu rd rs1 rm) := fun _ h => ⟨rfl, h⟩
theorem Expansion.fcvtDL (rd rs1 : RegIx) (rm : Rm) :
    Expansion.Statement (.fcvtDL rd rs1 rm) := fun _ h => ⟨rfl, h⟩
theorem Expansion.fcvtDLu (rd rs1 : RegIx) (rm : Rm) :
    Expansion.Statement (.fcvtDLu rd rs1 rm) := fun _ h => ⟨rfl, h⟩
theorem Expansion.fclassD (rd rs1 : RegIx) :
    Expansion.Statement (.fclassD rd rs1) := fun _ h => ⟨rfl, h⟩
theorem Expansion.fmvXD (rd rs1 : RegIx) :
    Expansion.Statement (.fmvXD rd rs1) := fun _ h => ⟨rfl, h⟩
theorem Expansion.fmvDX (rd rs1 : RegIx) :
    Expansion.Statement (.fmvDX rd rs1) := fun _ h => ⟨rfl, h⟩
theorem Expansion.fcvtSD (rd rs1 : RegIx) (rm : Rm) :
    Expansion.Statement (.fcvtSD rd rs1 rm) := fun _ h => ⟨rfl, h⟩
theorem Expansion.fcvtDS (rd rs1 : RegIx) (rm : Rm) :
    Expansion.Statement (.fcvtDS rd rs1 rm) := fun _ h => ⟨rfl, h⟩
theorem Expansion.fenceSystem (funct12 : BitVec 12) (rs1 rd : RegIx) :
    Expansion.Statement (.fenceSystem funct12 rs1 rd) := fun _ h => ⟨rfl, h⟩
theorem Expansion.cAddi4spn (rd : CRegIx) (imm : BitVec 8) :
    Expansion.Statement (.cAddi4spn rd imm) := fun _ h => ⟨rfl, wf_of_avail (.cAddi4spn rd imm) rfl (fun _ => rfl) h⟩
theorem Expansion.cFld (rd rs1 : CRegIx) (imm : BitVec 5) :
    Expansion.Statement (.cFld rd rs1 imm) := fun _ h => ⟨rfl, wf_of_avail (.cFld rd rs1 imm) rfl (fun _ => rfl) h⟩
theorem Expansion.cLw (rd rs1 : CRegIx) (imm : BitVec 5) :
    Expansion.Statement (.cLw rd rs1 imm) := fun _ h => ⟨rfl, wf_of_avail (.cLw rd rs1 imm) rfl (fun _ => rfl) h⟩
theorem Expansion.cFlw (rd rs1 : CRegIx) (imm : BitVec 5) :
    Expansion.Statement (.cFlw rd rs1 imm) := fun _ h => ⟨rfl, wf_of_both (.cFlw rd rs1 imm) rfl (fun _ => rfl) h⟩
theorem Expansion.cLd (rd rs1 : CRegIx) (imm : BitVec 5) :
    Expansion.Statement (.cLd rd rs1 imm) := fun _ h => ⟨rfl, wf_of_avail (.cLd rd rs1 imm) rfl (fun _ => rfl) h⟩
theorem Expansion.cFsd (rs1 rs2 : CRegIx) (imm : BitVec 5) :
    Expansion.Statement (.cFsd rs1 rs2 imm) := fun _ h => ⟨rfl, wf_of_avail (.cFsd rs1 rs2 imm) rfl (fun _ => rfl) h⟩
theorem Expansion.cSw (rs1 rs2 : CRegIx) (imm : BitVec 5) :
    Expansion.Statement (.cSw rs1 rs2 imm) := fun _ h => ⟨rfl, wf_of_avail (.cSw rs1 rs2 imm) rfl (fun _ => rfl) h⟩
theorem Expansion.cFsw (rs1 rs2 : CRegIx) (imm : BitVec 5) :
    Expansion.Statement (.cFsw rs1 rs2 imm) := fun _ h => ⟨rfl, wf_of_both (.cFsw rs1 rs2 imm) rfl (fun _ => rfl) h⟩
theorem Expansion.cSd (rs1 rs2 : CRegIx) (imm : BitVec 5) :
    Expansion.Statement (.cSd rs1 rs2 imm) := fun _ h => ⟨rfl, wf_of_avail (.cSd rs1 rs2 imm) rfl (fun _ => rfl) h⟩
theorem Expansion.cNop (imm : BitVec 6) :
    Expansion.Statement (.cNop imm) := fun _ h => ⟨rfl, wf_of_avail (.cNop imm) rfl (fun _ => rfl) h⟩
theorem Expansion.cAddi (rd : RegIx) (imm : BitVec 6) :
    Expansion.Statement (.cAddi rd imm) := fun _ h => ⟨rfl, wf_of_avail (.cAddi rd imm) rfl (fun _ => rfl) h⟩
theorem Expansion.cJal (off : BitVec 11) :
    Expansion.Statement (.cJal off) := fun _ h => ⟨rfl, wf_of_both (.cJal off) rfl (fun _ => rfl) h⟩
theorem Expansion.cAddiw (rd : RegIx) (imm : BitVec 6) :
    Expansion.Statement (.cAddiw rd imm) := fun _ h => ⟨rfl, wf_of_avail (.cAddiw rd imm) rfl (fun _ => rfl) h⟩
theorem Expansion.cLi (rd : RegIx) (imm : BitVec 6) :
    Expansion.Statement (.cLi rd imm) := fun _ h => ⟨rfl, wf_of_avail (.cLi rd imm) rfl (fun _ => rfl) h⟩
theorem Expansion.cAddi16sp (imm : BitVec 6) :
    Expansion.Statement (.cAddi16sp imm) := fun _ h => ⟨rfl, wf_of_avail (.cAddi16sp imm) rfl (fun _ => rfl) h⟩
theorem Expansion.cLui (rd : RegIx) (imm : BitVec 6) :
    Expansion.Statement (.cLui rd imm) := fun _ h => ⟨rfl, wf_of_avail (.cLui rd imm) rfl (fun _ => rfl) h⟩
theorem Expansion.cSrli (rd : CRegIx) (shamt : BitVec 6) :
    Expansion.Statement (.cSrli rd shamt) := fun _ h => ⟨rfl, wf_of_avail (.cSrli rd shamt) rfl (fun h => h) h⟩
theorem Expansion.cSrai (rd : CRegIx) (shamt : BitVec 6) :
    Expansion.Statement (.cSrai rd shamt) := fun _ h => ⟨rfl, wf_of_avail (.cSrai rd shamt) rfl (fun h => h) h⟩
theorem Expansion.cAndi (rd : CRegIx) (imm : BitVec 6) :
    Expansion.Statement (.cAndi rd imm) := fun _ h => ⟨rfl, wf_of_avail (.cAndi rd imm) rfl (fun _ => rfl) h⟩
theorem Expansion.cSub (rd rs2 : CRegIx) :
    Expansion.Statement (.cSub rd rs2) := fun _ h => ⟨rfl, wf_of_avail (.cSub rd rs2) rfl (fun _ => rfl) h⟩
theorem Expansion.cXor (rd rs2 : CRegIx) :
    Expansion.Statement (.cXor rd rs2) := fun _ h => ⟨rfl, wf_of_avail (.cXor rd rs2) rfl (fun _ => rfl) h⟩
theorem Expansion.cOr (rd rs2 : CRegIx) :
    Expansion.Statement (.cOr rd rs2) := fun _ h => ⟨rfl, wf_of_avail (.cOr rd rs2) rfl (fun _ => rfl) h⟩
theorem Expansion.cAnd (rd rs2 : CRegIx) :
    Expansion.Statement (.cAnd rd rs2) := fun _ h => ⟨rfl, wf_of_avail (.cAnd rd rs2) rfl (fun _ => rfl) h⟩
theorem Expansion.cSubw (rd rs2 : CRegIx) :
    Expansion.Statement (.cSubw rd rs2) := fun _ h => ⟨rfl, wf_of_avail (.cSubw rd rs2) rfl (fun _ => rfl) h⟩
theorem Expansion.cAddw (rd rs2 : CRegIx) :
    Expansion.Statement (.cAddw rd rs2) := fun _ h => ⟨rfl, wf_of_avail (.cAddw rd rs2) rfl (fun _ => rfl) h⟩
theorem Expansion.cJ (off : BitVec 11) :
    Expansion.Statement (.cJ off) := fun _ h => ⟨rfl, wf_of_avail (.cJ off) rfl (fun _ => rfl) h⟩
theorem Expansion.cBeqz (rs1 : CRegIx) (off : BitVec 8) :
    Expansion.Statement (.cBeqz rs1 off) := fun _ h => ⟨rfl, wf_of_avail (.cBeqz rs1 off) rfl (fun _ => rfl) h⟩
theorem Expansion.cBnez (rs1 : CRegIx) (off : BitVec 8) :
    Expansion.Statement (.cBnez rs1 off) := fun _ h => ⟨rfl, wf_of_avail (.cBnez rs1 off) rfl (fun _ => rfl) h⟩
theorem Expansion.cSlli (rd : RegIx) (shamt : BitVec 6) :
    Expansion.Statement (.cSlli rd shamt) := fun _ h => ⟨rfl, wf_of_avail (.cSlli rd shamt) rfl (fun h => h) h⟩
theorem Expansion.cFldsp (rd : RegIx) (imm : BitVec 6) :
    Expansion.Statement (.cFldsp rd imm) := fun _ h => ⟨rfl, wf_of_avail (.cFldsp rd imm) rfl (fun _ => rfl) h⟩
theorem Expansion.cLwsp (rd : RegIx) (imm : BitVec 6) :
    Expansion.Statement (.cLwsp rd imm) := fun _ h => ⟨rfl, wf_of_avail (.cLwsp rd imm) rfl (fun _ => rfl) h⟩
theorem Expansion.cFlwsp (rd : RegIx) (imm : BitVec 6) :
    Expansion.Statement (.cFlwsp rd imm) := fun _ h => ⟨rfl, wf_of_both (.cFlwsp rd imm) rfl (fun _ => rfl) h⟩
theorem Expansion.cLdsp (rd : RegIx) (imm : BitVec 6) :
    Expansion.Statement (.cLdsp rd imm) := fun _ h => ⟨rfl, wf_of_avail (.cLdsp rd imm) rfl (fun _ => rfl) h⟩
theorem Expansion.cJr (rs1 : RegIx) :
    Expansion.Statement (.cJr rs1) := fun _ h => ⟨rfl, wf_of_avail (.cJr rs1) rfl (fun _ => rfl) h⟩
theorem Expansion.cMv (rd rs2 : RegIx) :
    Expansion.Statement (.cMv rd rs2) := fun _ h => ⟨rfl, wf_of_avail (.cMv rd rs2) rfl (fun _ => rfl) h⟩
theorem Expansion.cEbreak :
    Expansion.Statement .cEbreak := fun _ h => ⟨rfl, wf_of_avail .cEbreak rfl (fun _ => rfl) h⟩
theorem Expansion.cJalr (rs1 : RegIx) :
    Expansion.Statement (.cJalr rs1) := fun _ h => ⟨rfl, wf_of_avail (.cJalr rs1) rfl (fun _ => rfl) h⟩
theorem Expansion.cAdd (rd rs2 : RegIx) :
    Expansion.Statement (.cAdd rd rs2) := fun _ h => ⟨rfl, wf_of_avail (.cAdd rd rs2) rfl (fun _ => rfl) h⟩
theorem Expansion.cFsdsp (rs2 : RegIx) (imm : BitVec 6) :
    Expansion.Statement (.cFsdsp rs2 imm) := fun _ h => ⟨rfl, wf_of_avail (.cFsdsp rs2 imm) rfl (fun _ => rfl) h⟩
theorem Expansion.cSwsp (rs2 : RegIx) (imm : BitVec 6) :
    Expansion.Statement (.cSwsp rs2 imm) := fun _ h => ⟨rfl, wf_of_avail (.cSwsp rs2 imm) rfl (fun _ => rfl) h⟩
theorem Expansion.cFswsp (rs2 : RegIx) (imm : BitVec 6) :
    Expansion.Statement (.cFswsp rs2 imm) := fun _ h => ⟨rfl, wf_of_both (.cFswsp rs2 imm) rfl (fun _ => rfl) h⟩
theorem Expansion.cSdsp (rs2 : RegIx) (imm : BitVec 6) :
    Expansion.Statement (.cSdsp rs2 imm) := fun _ h => ⟨rfl, wf_of_avail (.cSdsp rs2 imm) rfl (fun _ => rfl) h⟩

/-! ## Length -/

theorem Length.lui (rd : RegIx) (imm : BitVec 20) :
    Length.Statement (.lui rd imm) := isCompressed_of_opcode (Fld.opcode_encU ..) rfl
theorem Length.auipc (rd : RegIx) (imm : BitVec 20) :
    Length.Statement (.auipc rd imm) := isCompressed_of_opcode (Fld.opcode_encU ..) rfl
theorem Length.jal (rd : RegIx) (off : BitVec 20) :
    Length.Statement (.jal rd off) := isCompressed_of_opcode (Fld.opcode_encJ ..) rfl
theorem Length.jalr (rd rs1 : RegIx) (imm : BitVec 12) :
    Length.Statement (.jalr rd rs1 imm) := isCompressed_of_opcode (Fld.opcode_encI ..) rfl
theorem Length.beq (rs1 rs2 : RegIx) (off : BitVec 12) :
    Length.Statement (.beq rs1 rs2 off) := isCompressed_of_opcode (Fld.opcode_encB ..) rfl
theorem Length.bne (rs1 rs2 : RegIx) (off : BitVec 12) :
    Length.Statement (.bne rs1 rs2 off) := isCompressed_of_opcode (Fld.opcode_encB ..) rfl
theorem Length.blt (rs1 rs2 : RegIx) (off : BitVec 12) :
    Length.Statement (.blt rs1 rs2 off) := isCompressed_of_opcode (Fld.opcode_encB ..) rfl
theorem Length.bge (rs1 rs2 : RegIx) (off : BitVec 12) :
    Length.Statement (.bge rs1 rs2 off) := isCompressed_of_opcode (Fld.opcode_encB ..) rfl
theorem Length.bltu (rs1 rs2 : RegIx) (off : BitVec 12) :
    Length.Statement (.bltu rs1 rs2 off) := isCompressed_of_opcode (Fld.opcode_encB ..) rfl
theorem Length.bgeu (rs1 rs2 : RegIx) (off : BitVec 12) :
    Length.Statement (.bgeu rs1 rs2 off) := isCompressed_of_opcode (Fld.opcode_encB ..) rfl
theorem Length.lb (rd rs1 : RegIx) (imm : BitVec 12) :
    Length.Statement (.lb rd rs1 imm) := isCompressed_of_opcode (Fld.opcode_encI ..) rfl
theorem Length.lh (rd rs1 : RegIx) (imm : BitVec 12) :
    Length.Statement (.lh rd rs1 imm) := isCompressed_of_opcode (Fld.opcode_encI ..) rfl
theorem Length.lw (rd rs1 : RegIx) (imm : BitVec 12) :
    Length.Statement (.lw rd rs1 imm) := isCompressed_of_opcode (Fld.opcode_encI ..) rfl
theorem Length.ld (rd rs1 : RegIx) (imm : BitVec 12) :
    Length.Statement (.ld rd rs1 imm) := isCompressed_of_opcode (Fld.opcode_encI ..) rfl
theorem Length.lbu (rd rs1 : RegIx) (imm : BitVec 12) :
    Length.Statement (.lbu rd rs1 imm) := isCompressed_of_opcode (Fld.opcode_encI ..) rfl
theorem Length.lhu (rd rs1 : RegIx) (imm : BitVec 12) :
    Length.Statement (.lhu rd rs1 imm) := isCompressed_of_opcode (Fld.opcode_encI ..) rfl
theorem Length.lwu (rd rs1 : RegIx) (imm : BitVec 12) :
    Length.Statement (.lwu rd rs1 imm) := isCompressed_of_opcode (Fld.opcode_encI ..) rfl
theorem Length.sb (rs1 rs2 : RegIx) (imm : BitVec 12) :
    Length.Statement (.sb rs1 rs2 imm) := isCompressed_of_opcode (Fld.opcode_encS ..) rfl
theorem Length.sh (rs1 rs2 : RegIx) (imm : BitVec 12) :
    Length.Statement (.sh rs1 rs2 imm) := isCompressed_of_opcode (Fld.opcode_encS ..) rfl
theorem Length.sw (rs1 rs2 : RegIx) (imm : BitVec 12) :
    Length.Statement (.sw rs1 rs2 imm) := isCompressed_of_opcode (Fld.opcode_encS ..) rfl
theorem Length.sd (rs1 rs2 : RegIx) (imm : BitVec 12) :
    Length.Statement (.sd rs1 rs2 imm) := isCompressed_of_opcode (Fld.opcode_encS ..) rfl
theorem Length.addi (rd rs1 : RegIx) (imm : BitVec 12) :
    Length.Statement (.addi rd rs1 imm) := isCompressed_of_opcode (Fld.opcode_encI ..) rfl
theorem Length.slti (rd rs1 : RegIx) (imm : BitVec 12) :
    Length.Statement (.slti rd rs1 imm) := isCompressed_of_opcode (Fld.opcode_encI ..) rfl
theorem Length.sltiu (rd rs1 : RegIx) (imm : BitVec 12) :
    Length.Statement (.sltiu rd rs1 imm) := isCompressed_of_opcode (Fld.opcode_encI ..) rfl
theorem Length.xori (rd rs1 : RegIx) (imm : BitVec 12) :
    Length.Statement (.xori rd rs1 imm) := isCompressed_of_opcode (Fld.opcode_encI ..) rfl
theorem Length.ori (rd rs1 : RegIx) (imm : BitVec 12) :
    Length.Statement (.ori rd rs1 imm) := isCompressed_of_opcode (Fld.opcode_encI ..) rfl
theorem Length.andi (rd rs1 : RegIx) (imm : BitVec 12) :
    Length.Statement (.andi rd rs1 imm) := isCompressed_of_opcode (Fld.opcode_encI ..) rfl
theorem Length.slli (rd rs1 : RegIx) (shamt : BitVec 6) :
    Length.Statement (.slli rd rs1 shamt) := isCompressed_of_opcode (Fld.opcode_encSh ..) rfl
theorem Length.srli (rd rs1 : RegIx) (shamt : BitVec 6) :
    Length.Statement (.srli rd rs1 shamt) := isCompressed_of_opcode (Fld.opcode_encSh ..) rfl
theorem Length.srai (rd rs1 : RegIx) (shamt : BitVec 6) :
    Length.Statement (.srai rd rs1 shamt) := isCompressed_of_opcode (Fld.opcode_encSh ..) rfl
theorem Length.add (rd rs1 rs2 : RegIx) :
    Length.Statement (.add rd rs1 rs2) := isCompressed_of_opcode (Fld.opcode_encR ..) rfl
theorem Length.sub (rd rs1 rs2 : RegIx) :
    Length.Statement (.sub rd rs1 rs2) := isCompressed_of_opcode (Fld.opcode_encR ..) rfl
theorem Length.sll (rd rs1 rs2 : RegIx) :
    Length.Statement (.sll rd rs1 rs2) := isCompressed_of_opcode (Fld.opcode_encR ..) rfl
theorem Length.slt (rd rs1 rs2 : RegIx) :
    Length.Statement (.slt rd rs1 rs2) := isCompressed_of_opcode (Fld.opcode_encR ..) rfl
theorem Length.sltu (rd rs1 rs2 : RegIx) :
    Length.Statement (.sltu rd rs1 rs2) := isCompressed_of_opcode (Fld.opcode_encR ..) rfl
theorem Length.xor (rd rs1 rs2 : RegIx) :
    Length.Statement (.xor rd rs1 rs2) := isCompressed_of_opcode (Fld.opcode_encR ..) rfl
theorem Length.srl (rd rs1 rs2 : RegIx) :
    Length.Statement (.srl rd rs1 rs2) := isCompressed_of_opcode (Fld.opcode_encR ..) rfl
theorem Length.sra (rd rs1 rs2 : RegIx) :
    Length.Statement (.sra rd rs1 rs2) := isCompressed_of_opcode (Fld.opcode_encR ..) rfl
theorem Length.or (rd rs1 rs2 : RegIx) :
    Length.Statement (.or rd rs1 rs2) := isCompressed_of_opcode (Fld.opcode_encR ..) rfl
theorem Length.and (rd rs1 rs2 : RegIx) :
    Length.Statement (.and rd rs1 rs2) := isCompressed_of_opcode (Fld.opcode_encR ..) rfl
theorem Length.fence (fm pred succ : BitVec 4) (rs1 rd : RegIx) :
    Length.Statement (.fence fm pred succ rs1 rd) := isCompressed_of_opcode (Fld.opcode_encFence ..) rfl
theorem Length.fenceI (imm : BitVec 12) (rs1 rd : RegIx) :
    Length.Statement (.fenceI imm rs1 rd) := isCompressed_of_opcode (Fld.opcode_encI ..) rfl
theorem Length.ecall (rs1 rd : RegIx) :
    Length.Statement (.ecall rs1 rd) := isCompressed_of_opcode (Fld.opcode_encI ..) rfl
theorem Length.ebreak (rs1 rd : RegIx) :
    Length.Statement (.ebreak rs1 rd) := isCompressed_of_opcode (Fld.opcode_encI ..) rfl
theorem Length.uret (rs1 rd : RegIx) :
    Length.Statement (.uret rs1 rd) := isCompressed_of_opcode (Fld.opcode_encI ..) rfl
theorem Length.sret (rs1 rd : RegIx) :
    Length.Statement (.sret rs1 rd) := isCompressed_of_opcode (Fld.opcode_encI ..) rfl
theorem Length.mret (rs1 rd : RegIx) :
    Length.Statement (.mret rs1 rd) := isCompressed_of_opcode (Fld.opcode_encI ..) rfl
theorem Length.wfi (rs1 rd : RegIx) :
    Length.Statement (.wfi rs1 rd) := isCompressed_of_opcode (Fld.opcode_encI ..) rfl
theorem Length.sfenceVma (rs1 rs2 rd : RegIx) :
    Length.Statement (.sfenceVma rs1 rs2 rd) := isCompressed_of_opcode (Fld.opcode_encR ..) rfl
theorem Length.csrrw (rd : RegIx) (csr : BitVec 12) (rs1 : RegIx) :
    Length.Statement (.csrrw rd csr rs1) := isCompressed_of_opcode (Fld.opcode_encI ..) rfl
theorem Length.csrrs (rd : RegIx) (csr : BitVec 12) (rs1 : RegIx) :
    Length.Statement (.csrrs rd csr rs1) := isCompressed_of_opcode (Fld.opcode_encI ..) rfl
theorem Length.csrrc (rd : RegIx) (csr : BitVec 12) (rs1 : RegIx) :
    Length.Statement (.csrrc rd csr rs1) := isCompressed_of_opcode (Fld.opcode_encI ..) rfl
theorem Length.csrrwi (rd : RegIx) (csr : BitVec 12) (zimm : BitVec 5) :
    Length.Statement (.csrrwi rd csr zimm) := isCompressed_of_opcode (Fld.opcode_encI ..) rfl
theorem Length.csrrsi (rd : RegIx) (csr : BitVec 12) (zimm : BitVec 5) :
    Length.Statement (.csrrsi rd csr zimm) := isCompressed_of_opcode (Fld.opcode_encI ..) rfl
theorem Length.csrrci (rd : RegIx) (csr : BitVec 12) (zimm : BitVec 5) :
    Length.Statement (.csrrci rd csr zimm) := isCompressed_of_opcode (Fld.opcode_encI ..) rfl
theorem Length.mul (rd rs1 rs2 : RegIx) :
    Length.Statement (.mul rd rs1 rs2) := isCompressed_of_opcode (Fld.opcode_encR ..) rfl
theorem Length.mulh (rd rs1 rs2 : RegIx) :
    Length.Statement (.mulh rd rs1 rs2) := isCompressed_of_opcode (Fld.opcode_encR ..) rfl
theorem Length.mulhsu (rd rs1 rs2 : RegIx) :
    Length.Statement (.mulhsu rd rs1 rs2) := isCompressed_of_opcode (Fld.opcode_encR ..) rfl
theorem Length.mulhu (rd rs1 rs2 : RegIx) :
    Length.Statement (.mulhu rd rs1 rs2) := isCompressed_of_opcode (Fld.opcode_encR ..) rfl
theorem Length.div (rd rs1 rs2 : RegIx) :
    Length.Statement (.div rd rs1 rs2) := isCompressed_of_opcode (Fld.opcode_encR ..) rfl
theorem Length.divu (rd rs1 rs2 : RegIx) :
    Length.Statement (.divu rd rs1 rs2) := isCompressed_of_opcode (Fld.opcode_encR ..) rfl
theorem Length.rem (rd rs1 rs2 : RegIx) :
    Length.Statement (.rem rd rs1 rs2) := isCompressed_of_opcode (Fld.opcode_encR ..) rfl
theorem Length.remu (rd rs1 rs2 : RegIx) :
    Length.Statement (.remu rd rs1 rs2) := isCompressed_of_opcode (Fld.opcode_encR ..) rfl
theorem Length.addiw (rd rs1 : RegIx) (imm : BitVec 12) :
    Length.Statement (.addiw rd rs1 imm) := isCompressed_of_opcode (Fld.opcode_encI ..) rfl
theorem Length.slliw (rd rs1 : RegIx) (shamt : BitVec 5) :
    Length.Statement (.slliw rd rs1 shamt) := isCompressed_of_opcode (Fld.opcode_encR ..) rfl
theorem Length.srliw (rd rs1 : RegIx) (shamt : BitVec 5) :
    Length.Statement (.srliw rd rs1 shamt) := isCompressed_of_opcode (Fld.opcode_encR ..) rfl
theorem Length.sraiw (rd rs1 : RegIx) (shamt : BitVec 5) :
    Length.Statement (.sraiw rd rs1 shamt) := isCompressed_of_opcode (Fld.opcode_encR ..) rfl
theorem Length.addw (rd rs1 rs2 : RegIx) :
    Length.Statement (.addw rd rs1 rs2) := isCompressed_of_opcode (Fld.opcode_encR ..) rfl
theorem Length.subw (rd rs1 rs2 : RegIx) :
    Length.Statement (.subw rd rs1 rs2) := isCompressed_of_opcode (Fld.opcode_encR ..) rfl
theorem Length.sllw (rd rs1 rs2 : RegIx) :
    Length.Statement (.sllw rd rs1 rs2) := isCompressed_of_opcode (Fld.opcode_encR ..) rfl
theorem Length.srlw (rd rs1 rs2 : RegIx) :
    Length.Statement (.srlw rd rs1 rs2) := isCompressed_of_opcode (Fld.opcode_encR ..) rfl
theorem Length.sraw (rd rs1 rs2 : RegIx) :
    Length.Statement (.sraw rd rs1 rs2) := isCompressed_of_opcode (Fld.opcode_encR ..) rfl
theorem Length.mulw (rd rs1 rs2 : RegIx) :
    Length.Statement (.mulw rd rs1 rs2) := isCompressed_of_opcode (Fld.opcode_encR ..) rfl
theorem Length.divw (rd rs1 rs2 : RegIx) :
    Length.Statement (.divw rd rs1 rs2) := isCompressed_of_opcode (Fld.opcode_encR ..) rfl
theorem Length.divuw (rd rs1 rs2 : RegIx) :
    Length.Statement (.divuw rd rs1 rs2) := isCompressed_of_opcode (Fld.opcode_encR ..) rfl
theorem Length.remw (rd rs1 rs2 : RegIx) :
    Length.Statement (.remw rd rs1 rs2) := isCompressed_of_opcode (Fld.opcode_encR ..) rfl
theorem Length.remuw (rd rs1 rs2 : RegIx) :
    Length.Statement (.remuw rd rs1 rs2) := isCompressed_of_opcode (Fld.opcode_encR ..) rfl
theorem Length.lrW (rd rs1 rs2 : RegIx) (aq rl : BitVec 1) :
    Length.Statement (.lrW rd rs1 rs2 aq rl) := isCompressed_of_opcode (Fld.opcode_encAmo ..) rfl
theorem Length.scW (rd rs1 rs2 : RegIx) (aq rl : BitVec 1) :
    Length.Statement (.scW rd rs1 rs2 aq rl) := isCompressed_of_opcode (Fld.opcode_encAmo ..) rfl
theorem Length.amoswapW (rd rs1 rs2 : RegIx) (aq rl : BitVec 1) :
    Length.Statement (.amoswapW rd rs1 rs2 aq rl) := isCompressed_of_opcode (Fld.opcode_encAmo ..) rfl
theorem Length.amoaddW (rd rs1 rs2 : RegIx) (aq rl : BitVec 1) :
    Length.Statement (.amoaddW rd rs1 rs2 aq rl) := isCompressed_of_opcode (Fld.opcode_encAmo ..) rfl
theorem Length.amoxorW (rd rs1 rs2 : RegIx) (aq rl : BitVec 1) :
    Length.Statement (.amoxorW rd rs1 rs2 aq rl) := isCompressed_of_opcode (Fld.opcode_encAmo ..) rfl
theorem Length.amoandW (rd rs1 rs2 : RegIx) (aq rl : BitVec 1) :
    Length.Statement (.amoandW rd rs1 rs2 aq rl) := isCompressed_of_opcode (Fld.opcode_encAmo ..) rfl
theorem Length.amoorW (rd rs1 rs2 : RegIx) (aq rl : BitVec 1) :
    Length.Statement (.amoorW rd rs1 rs2 aq rl) := isCompressed_of_opcode (Fld.opcode_encAmo ..) rfl
theorem Length.amominW (rd rs1 rs2 : RegIx) (aq rl : BitVec 1) :
    Length.Statement (.amominW rd rs1 rs2 aq rl) := isCompressed_of_opcode (Fld.opcode_encAmo ..) rfl
theorem Length.amomaxW (rd rs1 rs2 : RegIx) (aq rl : BitVec 1) :
    Length.Statement (.amomaxW rd rs1 rs2 aq rl) := isCompressed_of_opcode (Fld.opcode_encAmo ..) rfl
theorem Length.amominuW (rd rs1 rs2 : RegIx) (aq rl : BitVec 1) :
    Length.Statement (.amominuW rd rs1 rs2 aq rl) := isCompressed_of_opcode (Fld.opcode_encAmo ..) rfl
theorem Length.amomaxuW (rd rs1 rs2 : RegIx) (aq rl : BitVec 1) :
    Length.Statement (.amomaxuW rd rs1 rs2 aq rl) := isCompressed_of_opcode (Fld.opcode_encAmo ..) rfl
theorem Length.lrD (rd rs1 rs2 : RegIx) (aq rl : BitVec 1) :
    Length.Statement (.lrD rd rs1 rs2 aq rl) := isCompressed_of_opcode (Fld.opcode_encAmo ..) rfl
theorem Length.scD (rd rs1 rs2 : RegIx) (aq rl : BitVec 1) :
    Length.Statement (.scD rd rs1 rs2 aq rl) := isCompressed_of_opcode (Fld.opcode_encAmo ..) rfl
theorem Length.amoswapD (rd rs1 rs2 : RegIx) (aq rl : BitVec 1) :
    Length.Statement (.amoswapD rd rs1 rs2 aq rl) := isCompressed_of_opcode (Fld.opcode_encAmo ..) rfl
theorem Length.amoaddD (rd rs1 rs2 : RegIx) (aq rl : BitVec 1) :
    Length.Statement (.amoaddD rd rs1 rs2 aq rl) := isCompressed_of_opcode (Fld.opcode_encAmo ..) rfl
theorem Length.amoxorD (rd rs1 rs2 : RegIx) (aq rl : BitVec 1) :
    Length.Statement (.amoxorD rd rs1 rs2 aq rl) := isCompressed_of_opcode (Fld.opcode_encAmo ..) rfl
theorem Length.amoandD (rd rs1 rs2 : RegIx) (aq rl : BitVec 1) :
    Length.Statement (.amoandD rd rs1 rs2 aq rl) := isCompressed_of_opcode (Fld.opcode_encAmo ..) rfl
theorem Length.amoorD (rd rs1 rs2 : RegIx) (aq rl : BitVec 1) :
    Length.Statement (.amoorD rd rs1 rs2 aq rl) := isCompressed_of_opcode (Fld.opcode_encAmo ..) rfl
theorem Length.amominD (rd rs1 rs2 : RegIx) (aq rl : BitVec 1) :
    Length.Statement (.amominD rd rs1 rs2 aq rl) := isCompressed_of_opcode (Fld.opcode_encAmo ..) rfl
theorem Length.amomaxD (rd rs1 rs2 : RegIx) (aq rl : BitVec 1) :
    Length.Statement (.amomaxD rd rs1 rs2 aq rl) := isCompressed_of_opcode (Fld.opcode_encAmo ..) rfl
theorem Length.amominuD (rd rs1 rs2 : RegIx) (aq rl : BitVec 1) :
    Length.Statement (.amominuD rd rs1 rs2 aq rl) := isCompressed_of_opcode (Fld.opcode_encAmo ..) rfl
theorem Length.amomaxuD (rd rs1 rs2 : RegIx) (aq rl : BitVec 1) :
    Length.Statement (.amomaxuD rd rs1 rs2 aq rl) := isCompressed_of_opcode (Fld.opcode_encAmo ..) rfl
theorem Length.flw (rd rs1 : RegIx) (imm : BitVec 12) :
    Length.Statement (.flw rd rs1 imm) := isCompressed_of_opcode (Fld.opcode_encI ..) rfl
theorem Length.fld (rd rs1 : RegIx) (imm : BitVec 12) :
    Length.Statement (.fld rd rs1 imm) := isCompressed_of_opcode (Fld.opcode_encI ..) rfl
theorem Length.fsw (rs1 rs2 : RegIx) (imm : BitVec 12) :
    Length.Statement (.fsw rs1 rs2 imm) := isCompressed_of_opcode (Fld.opcode_encS ..) rfl
theorem Length.fsd (rs1 rs2 : RegIx) (imm : BitVec 12) :
    Length.Statement (.fsd rs1 rs2 imm) := isCompressed_of_opcode (Fld.opcode_encS ..) rfl
theorem Length.fmaddS (rd rs1 rs2 rs3 : RegIx) (rm : Rm) :
    Length.Statement (.fmaddS rd rs1 rs2 rs3 rm) := isCompressed_of_opcode (Fld.opcode_encR4 ..) rfl
theorem Length.fmsubS (rd rs1 rs2 rs3 : RegIx) (rm : Rm) :
    Length.Statement (.fmsubS rd rs1 rs2 rs3 rm) := isCompressed_of_opcode (Fld.opcode_encR4 ..) rfl
theorem Length.fnmsubS (rd rs1 rs2 rs3 : RegIx) (rm : Rm) :
    Length.Statement (.fnmsubS rd rs1 rs2 rs3 rm) := isCompressed_of_opcode (Fld.opcode_encR4 ..) rfl
theorem Length.fnmaddS (rd rs1 rs2 rs3 : RegIx) (rm : Rm) :
    Length.Statement (.fnmaddS rd rs1 rs2 rs3 rm) := isCompressed_of_opcode (Fld.opcode_encR4 ..) rfl
theorem Length.faddS (rd rs1 rs2 : RegIx) (rm : Rm) :
    Length.Statement (.faddS rd rs1 rs2 rm) := isCompressed_of_opcode (Fld.opcode_encR ..) rfl
theorem Length.fsubS (rd rs1 rs2 : RegIx) (rm : Rm) :
    Length.Statement (.fsubS rd rs1 rs2 rm) := isCompressed_of_opcode (Fld.opcode_encR ..) rfl
theorem Length.fmulS (rd rs1 rs2 : RegIx) (rm : Rm) :
    Length.Statement (.fmulS rd rs1 rs2 rm) := isCompressed_of_opcode (Fld.opcode_encR ..) rfl
theorem Length.fdivS (rd rs1 rs2 : RegIx) (rm : Rm) :
    Length.Statement (.fdivS rd rs1 rs2 rm) := isCompressed_of_opcode (Fld.opcode_encR ..) rfl
theorem Length.fsqrtS (rd rs1 : RegIx) (rm : Rm) :
    Length.Statement (.fsqrtS rd rs1 rm) := isCompressed_of_opcode (Fld.opcode_encR ..) rfl
theorem Length.fsgnjS (rd rs1 rs2 : RegIx) :
    Length.Statement (.fsgnjS rd rs1 rs2) := isCompressed_of_opcode (Fld.opcode_encR ..) rfl
theorem Length.fsgnjnS (rd rs1 rs2 : RegIx) :
    Length.Statement (.fsgnjnS rd rs1 rs2) := isCompressed_of_opcode (Fld.opcode_encR ..) rfl
theorem Length.fsgnjxS (rd rs1 rs2 : RegIx) :
    Length.Statement (.fsgnjxS rd rs1 rs2) := isCompressed_of_opcode (Fld.opcode_encR ..) rfl
theorem Length.fminS (rd rs1 rs2 : RegIx) :
    Length.Statement (.fminS rd rs1 rs2) := isCompressed_of_opcode (Fld.opcode_encR ..) rfl
theorem Length.fmaxS (rd rs1 rs2 : RegIx) :
    Length.Statement (.fmaxS rd rs1 rs2) := isCompressed_of_opcode (Fld.opcode_encR ..) rfl
theorem Length.fleS (rd rs1 rs2 : RegIx) :
    Length.Statement (.fleS rd rs1 rs2) := isCompressed_of_opcode (Fld.opcode_encR ..) rfl
theorem Length.fltS (rd rs1 rs2 : RegIx) :
    Length.Statement (.fltS rd rs1 rs2) := isCompressed_of_opcode (Fld.opcode_encR ..) rfl
theorem Length.feqS (rd rs1 rs2 : RegIx) :
    Length.Statement (.feqS rd rs1 rs2) := isCompressed_of_opcode (Fld.opcode_encR ..) rfl
theorem Length.fcvtWS (rd rs1 : RegIx) (rm : Rm) :
    Length.Statement (.fcvtWS rd rs1 rm) := isCompressed_of_opcode (Fld.opcode_encR ..) rfl
theorem Length.fcvtWuS (rd rs1 : RegIx) (rm : Rm) :
    Length.Statement (.fcvtWuS rd rs1 rm) := isCompressed_of_opcode (Fld.opcode_encR ..) rfl
theorem Length.fcvtLS (rd rs1 : RegIx) (rm : Rm) :
    Length.Statement (.fcvtLS rd rs1 rm) := isCompressed_of_opcode (Fld.opcode_encR ..) rfl
theorem Length.fcvtLuS (rd rs1 : RegIx) (rm : Rm) :
    Length.Statement (.fcvtLuS rd rs1 rm) := isCompressed_of_opcode (Fld.opcode_encR ..) rfl
theorem Length.fcvtSW (rd rs1 : RegIx) (rm : Rm) :
    Length.Statement (.fcvtSW rd rs1 rm) := isCompressed_of_opcode (Fld.opcode_encR ..) rfl
theorem Length.fcvtSWu (rd rs1 : RegIx) (rm : Rm) :
    Length.Statement (.fcvtSWu rd rs1 rm) := isCompressed_of_opcode (Fld.opcode_encR ..) rfl
theorem Length.fcvtSL (rd rs1 : RegIx) (rm : Rm) :
    Length.Statement (.fcvtSL rd rs1 rm) := isCompressed_of_opcode (Fld.opcode_encR ..) rfl
theorem Length.fcvtSLu (rd rs1 : RegIx) (rm : Rm) :
    Length.Statement (.fcvtSLu rd rs1 rm) := isCompressed_of_opcode (Fld.opcode_encR ..) rfl
theorem Length.fclassS (rd rs1 : RegIx) :
    Length.Statement (.fclassS rd rs1) := isCompressed_of_opcode (Fld.opcode_encR ..) rfl
theorem Length.fmvXW (rd rs1 : RegIx) :
    Length.Statement (.fmvXW rd rs1) := isCompressed_of_opcode (Fld.opcode_encR ..) rfl
theorem Length.fmvWX (rd rs1 : RegIx) :
    Length.Statement (.fmvWX rd rs1) := isCompressed_of_opcode (Fld.opcode_encR ..) rfl
theorem Length.fmaddD (rd rs1 rs2 rs3 : RegIx) (rm : Rm) :
    Length.Statement (.fmaddD rd rs1 rs2 rs3 rm) := isCompressed_of_opcode (Fld.opcode_encR4 ..) rfl
theorem Length.fmsubD (rd rs1 rs2 rs3 : RegIx) (rm : Rm) :
    Length.Statement (.fmsubD rd rs1 rs2 rs3 rm) := isCompressed_of_opcode (Fld.opcode_encR4 ..) rfl
theorem Length.fnmsubD (rd rs1 rs2 rs3 : RegIx) (rm : Rm) :
    Length.Statement (.fnmsubD rd rs1 rs2 rs3 rm) := isCompressed_of_opcode (Fld.opcode_encR4 ..) rfl
theorem Length.fnmaddD (rd rs1 rs2 rs3 : RegIx) (rm : Rm) :
    Length.Statement (.fnmaddD rd rs1 rs2 rs3 rm) := isCompressed_of_opcode (Fld.opcode_encR4 ..) rfl
theorem Length.faddD (rd rs1 rs2 : RegIx) (rm : Rm) :
    Length.Statement (.faddD rd rs1 rs2 rm) := isCompressed_of_opcode (Fld.opcode_encR ..) rfl
theorem Length.fsubD (rd rs1 rs2 : RegIx) (rm : Rm) :
    Length.Statement (.fsubD rd rs1 rs2 rm) := isCompressed_of_opcode (Fld.opcode_encR ..) rfl
theorem Length.fmulD (rd rs1 rs2 : RegIx) (rm : Rm) :
    Length.Statement (.fmulD rd rs1 rs2 rm) := isCompressed_of_opcode (Fld.opcode_encR ..) rfl
theorem Length.fdivD (rd rs1 rs2 : RegIx) (rm : Rm) :
    Length.Statement (.fdivD rd rs1 rs2 rm) := isCompressed_of_opcode (Fld.opcode_encR ..) rfl
theorem Length.fsqrtD (rd rs1 : RegIx) (rm : Rm) :
    Length.Statement (.fsqrtD rd rs1 rm) := isCompressed_of_opcode (Fld.opcode_encR ..) rfl
theorem Length.fsgnjD (rd rs1 rs2 : RegIx) :
    Length.Statement (.fsgnjD rd rs1 rs2) := isCompressed_of_opcode (Fld.opcode_encR ..) rfl
theorem Length.fsgnjnD (rd rs1 rs2 : RegIx) :
    Length.Statement (.fsgnjnD rd rs1 rs2) := isCompressed_of_opcode (Fld.opcode_encR ..) rfl
theorem Length.fsgnjxD (rd rs1 rs2 : RegIx) :
    Length.Statement (.fsgnjxD rd rs1 rs2) := isCompressed_of_opcode (Fld.opcode_encR ..) rfl
theorem Length.fminD (rd rs1 rs2 : RegIx) :
    Length.Statement (.fminD rd rs1 rs2) := isCompressed_of_opcode (Fld.opcode_encR ..) rfl
theorem Length.fmaxD (rd rs1 rs2 : RegIx) :
    Length.Statement (.fmaxD rd rs1 rs2) := isCompressed_of_opcode (Fld.opcode_encR ..) rfl
theorem Length.fleD (rd rs1 rs2 : RegIx) :
    Length.Statement (.fleD rd rs1 rs2) := isCompressed_of_opcode (Fld.opcode_encR ..) rfl
theorem Length.fltD (rd rs1 rs2 : RegIx) :
    Length.Statement (.fltD rd rs1 rs2) := isCompressed_of_opcode (Fld.opcode_encR ..) rfl
theorem Length.feqD (rd rs1 rs2 : RegIx) :
    Length.Statement (.feqD rd rs1 rs2) := isCompressed_of_opcode (Fld.opcode_encR ..) rfl
theorem Length.fcvtWD (rd rs1 : RegIx) (rm : Rm) :
    Length.Statement (.fcvtWD rd rs1 rm) := isCompressed_of_opcode (Fld.opcode_encR ..) rfl
theorem Length.fcvtWuD (rd rs1 : RegIx) (rm : Rm) :
    Length.Statement (.fcvtWuD rd rs1 rm) := isCompressed_of_opcode (Fld.opcode_encR ..) rfl
theorem Length.fcvtLD (rd rs1 : RegIx) (rm : Rm) :
    Length.Statement (.fcvtLD rd rs1 rm) := isCompressed_of_opcode (Fld.opcode_encR ..) rfl
theorem Length.fcvtLuD (rd rs1 : RegIx) (rm : Rm) :
    Length.Statement (.fcvtLuD rd rs1 rm) := isCompressed_of_opcode (Fld.opcode_encR ..) rfl
theorem Length.fcvtDW (rd rs1 : RegIx) (rm : Rm) :
    Length.Statement (.fcvtDW rd rs1 rm) := isCompressed_of_opcode (Fld.opcode_encR ..) rfl
theorem Length.fcvtDWu (rd rs1 : RegIx) (rm : Rm) :
    Length.Statement (.fcvtDWu rd rs1 rm) := isCompressed_of_opcode (Fld.opcode_encR ..) rfl
theorem Length.fcvtDL (rd rs1 : RegIx) (rm : Rm) :
    Length.Statement (.fcvtDL rd rs1 rm) := isCompressed_of_opcode (Fld.opcode_encR ..) rfl
theorem Length.fcvtDLu (rd rs1 : RegIx) (rm : Rm) :
    Length.Statement (.fcvtDLu rd rs1 rm) := isCompressed_of_opcode (Fld.opcode_encR ..) rfl
theorem Length.fclassD (rd rs1 : RegIx) :
    Length.Statement (.fclassD rd rs1) := isCompressed_of_opcode (Fld.opcode_encR ..) rfl
theorem Length.fmvXD (rd rs1 : RegIx) :
    Length.Statement (.fmvXD rd rs1) := isCompressed_of_opcode (Fld.opcode_encR ..) rfl
theorem Length.fmvDX (rd rs1 : RegIx) :
    Length.Statement (.fmvDX rd rs1) := isCompressed_of_opcode (Fld.opcode_encR ..) rfl
theorem Length.fcvtSD (rd rs1 : RegIx) (rm : Rm) :
    Length.Statement (.fcvtSD rd rs1 rm) := isCompressed_of_opcode (Fld.opcode_encR ..) rfl
theorem Length.fcvtDS (rd rs1 : RegIx) (rm : Rm) :
    Length.Statement (.fcvtDS rd rs1 rm) := isCompressed_of_opcode (Fld.opcode_encR ..) rfl
theorem Length.fenceSystem (funct12 : BitVec 12) (rs1 rd : RegIx) :
    Length.Statement (.fenceSystem funct12 rs1 rd) := isCompressed_of_opcode (Fld.opcode_encI ..) rfl
theorem Length.cAddi4spn (rd : CRegIx) (imm : BitVec 8) :
    Length.Statement (.cAddi4spn rd imm) := isCompressed_of_quadrant (CFld.quadrant_encCiw ..) rfl
theorem Length.cFld (rd rs1 : CRegIx) (imm : BitVec 5) :
    Length.Statement (.cFld rd rs1 imm) := isCompressed_of_quadrant (CFld.quadrant_encClD ..) rfl
theorem Length.cLw (rd rs1 : CRegIx) (imm : BitVec 5) :
    Length.Statement (.cLw rd rs1 imm) := isCompressed_of_quadrant (CFld.quadrant_encClW ..) rfl
theorem Length.cFlw (rd rs1 : CRegIx) (imm : BitVec 5) :
    Length.Statement (.cFlw rd rs1 imm) := isCompressed_of_quadrant (CFld.quadrant_encClW ..) rfl
theorem Length.cLd (rd rs1 : CRegIx) (imm : BitVec 5) :
    Length.Statement (.cLd rd rs1 imm) := isCompressed_of_quadrant (CFld.quadrant_encClD ..) rfl
theorem Length.cFsd (rs1 rs2 : CRegIx) (imm : BitVec 5) :
    Length.Statement (.cFsd rs1 rs2 imm) := isCompressed_of_quadrant (CFld.quadrant_encClD ..) rfl
theorem Length.cSw (rs1 rs2 : CRegIx) (imm : BitVec 5) :
    Length.Statement (.cSw rs1 rs2 imm) := isCompressed_of_quadrant (CFld.quadrant_encClW ..) rfl
theorem Length.cFsw (rs1 rs2 : CRegIx) (imm : BitVec 5) :
    Length.Statement (.cFsw rs1 rs2 imm) := isCompressed_of_quadrant (CFld.quadrant_encClW ..) rfl
theorem Length.cSd (rs1 rs2 : CRegIx) (imm : BitVec 5) :
    Length.Statement (.cSd rs1 rs2 imm) := isCompressed_of_quadrant (CFld.quadrant_encClD ..) rfl
theorem Length.cNop (imm : BitVec 6) :
    Length.Statement (.cNop imm) := isCompressed_of_quadrant (CFld.quadrant_encCi ..) rfl
theorem Length.cAddi (rd : RegIx) (imm : BitVec 6) :
    Length.Statement (.cAddi rd imm) := isCompressed_of_quadrant (CFld.quadrant_encCi ..) rfl
theorem Length.cJal (off : BitVec 11) :
    Length.Statement (.cJal off) := isCompressed_of_quadrant (CFld.quadrant_encCj ..) rfl
theorem Length.cAddiw (rd : RegIx) (imm : BitVec 6) :
    Length.Statement (.cAddiw rd imm) := isCompressed_of_quadrant (CFld.quadrant_encCi ..) rfl
theorem Length.cLi (rd : RegIx) (imm : BitVec 6) :
    Length.Statement (.cLi rd imm) := isCompressed_of_quadrant (CFld.quadrant_encCi ..) rfl
theorem Length.cAddi16sp (imm : BitVec 6) :
    Length.Statement (.cAddi16sp imm) := isCompressed_of_quadrant (CFld.quadrant_encCi16sp ..) rfl
theorem Length.cLui (rd : RegIx) (imm : BitVec 6) :
    Length.Statement (.cLui rd imm) := isCompressed_of_quadrant (CFld.quadrant_encCi ..) rfl
theorem Length.cSrli (rd : CRegIx) (shamt : BitVec 6) :
    Length.Statement (.cSrli rd shamt) := isCompressed_of_quadrant (CFld.quadrant_encCbAlu ..) rfl
theorem Length.cSrai (rd : CRegIx) (shamt : BitVec 6) :
    Length.Statement (.cSrai rd shamt) := isCompressed_of_quadrant (CFld.quadrant_encCbAlu ..) rfl
theorem Length.cAndi (rd : CRegIx) (imm : BitVec 6) :
    Length.Statement (.cAndi rd imm) := isCompressed_of_quadrant (CFld.quadrant_encCbAlu ..) rfl
theorem Length.cSub (rd rs2 : CRegIx) :
    Length.Statement (.cSub rd rs2) := isCompressed_of_quadrant (CFld.quadrant_encCa ..) rfl
theorem Length.cXor (rd rs2 : CRegIx) :
    Length.Statement (.cXor rd rs2) := isCompressed_of_quadrant (CFld.quadrant_encCa ..) rfl
theorem Length.cOr (rd rs2 : CRegIx) :
    Length.Statement (.cOr rd rs2) := isCompressed_of_quadrant (CFld.quadrant_encCa ..) rfl
theorem Length.cAnd (rd rs2 : CRegIx) :
    Length.Statement (.cAnd rd rs2) := isCompressed_of_quadrant (CFld.quadrant_encCa ..) rfl
theorem Length.cSubw (rd rs2 : CRegIx) :
    Length.Statement (.cSubw rd rs2) := isCompressed_of_quadrant (CFld.quadrant_encCa ..) rfl
theorem Length.cAddw (rd rs2 : CRegIx) :
    Length.Statement (.cAddw rd rs2) := isCompressed_of_quadrant (CFld.quadrant_encCa ..) rfl
theorem Length.cJ (off : BitVec 11) :
    Length.Statement (.cJ off) := isCompressed_of_quadrant (CFld.quadrant_encCj ..) rfl
theorem Length.cBeqz (rs1 : CRegIx) (off : BitVec 8) :
    Length.Statement (.cBeqz rs1 off) := isCompressed_of_quadrant (CFld.quadrant_encCb ..) rfl
theorem Length.cBnez (rs1 : CRegIx) (off : BitVec 8) :
    Length.Statement (.cBnez rs1 off) := isCompressed_of_quadrant (CFld.quadrant_encCb ..) rfl
theorem Length.cSlli (rd : RegIx) (shamt : BitVec 6) :
    Length.Statement (.cSlli rd shamt) := isCompressed_of_quadrant (CFld.quadrant_encCi ..) rfl
theorem Length.cFldsp (rd : RegIx) (imm : BitVec 6) :
    Length.Statement (.cFldsp rd imm) := isCompressed_of_quadrant (CFld.quadrant_encCiD ..) rfl
theorem Length.cLwsp (rd : RegIx) (imm : BitVec 6) :
    Length.Statement (.cLwsp rd imm) := isCompressed_of_quadrant (CFld.quadrant_encCiW ..) rfl
theorem Length.cFlwsp (rd : RegIx) (imm : BitVec 6) :
    Length.Statement (.cFlwsp rd imm) := isCompressed_of_quadrant (CFld.quadrant_encCiW ..) rfl
theorem Length.cLdsp (rd : RegIx) (imm : BitVec 6) :
    Length.Statement (.cLdsp rd imm) := isCompressed_of_quadrant (CFld.quadrant_encCiD ..) rfl
theorem Length.cJr (rs1 : RegIx) :
    Length.Statement (.cJr rs1) := isCompressed_of_quadrant (CFld.quadrant_encCr ..) rfl
theorem Length.cMv (rd rs2 : RegIx) :
    Length.Statement (.cMv rd rs2) := isCompressed_of_quadrant (CFld.quadrant_encCr ..) rfl
theorem Length.cEbreak :
    Length.Statement .cEbreak := isCompressed_of_quadrant (CFld.quadrant_encCr ..) rfl
theorem Length.cJalr (rs1 : RegIx) :
    Length.Statement (.cJalr rs1) := isCompressed_of_quadrant (CFld.quadrant_encCr ..) rfl
theorem Length.cAdd (rd rs2 : RegIx) :
    Length.Statement (.cAdd rd rs2) := isCompressed_of_quadrant (CFld.quadrant_encCr ..) rfl
theorem Length.cFsdsp (rs2 : RegIx) (imm : BitVec 6) :
    Length.Statement (.cFsdsp rs2 imm) := isCompressed_of_quadrant (CFld.quadrant_encCssD ..) rfl
theorem Length.cSwsp (rs2 : RegIx) (imm : BitVec 6) :
    Length.Statement (.cSwsp rs2 imm) := isCompressed_of_quadrant (CFld.quadrant_encCssW ..) rfl
theorem Length.cFswsp (rs2 : RegIx) (imm : BitVec 6) :
    Length.Statement (.cFswsp rs2 imm) := isCompressed_of_quadrant (CFld.quadrant_encCssW ..) rfl
theorem Length.cSdsp (rs2 : RegIx) (imm : BitVec 6) :
    Length.Statement (.cSdsp rs2 imm) := isCompressed_of_quadrant (CFld.quadrant_encCssD ..) rfl

end Sys2Proof.Laws
end

