-- ==== Sys2Proof/Tests/Slice0.lean ====
section
/-! SUPPORT. The model's own tests: what WellFormed refuses, words written out bit by bit from the spec's encodings, one-step vectors of 95_test_vectors, and witnesses of the statements' hypotheses. -/

namespace Sys2Proof.Tests

open Sys2Proof.Machine Sys2Proof.Claim

/-! ## WellFormed: an ill-formed term for each check -/

/-- XLEN gating (30_encoding R106, 40_compressed R120). -/
theorem test_wf_refuses_the_other_xlen :
    Instr.wf .rv32 (.ld 1 2 0) = false ∧ Instr.wf .rv32 (.addw 1 2 3) = false ∧
    Instr.wf .rv32 (.amoaddD 1 2 3 0 0) = false ∧ Instr.wf .rv32 (.fmvXD 1 2) = false ∧
    Instr.wf .rv32 (.cLdsp 1 0) = false ∧ Instr.wf .rv64 (.cJal 1) = false ∧
    Instr.wf .rv64 (.cFlw 1 2 0) = false := by decide

/-- Shift amounts (30_encoding R82, R106). -/
theorem test_wf_refuses_shift_amounts :
    Instr.wf .rv32 (.slli 1 2 32) = false ∧ Instr.wf .rv32 (.srli 1 2 32) = false ∧
    Instr.wf .rv32 (.srai 1 2 63) = false ∧ Instr.wf .rv32 (.cSlli 1 32) = false ∧
    Instr.wf .rv32 (.cSrli 1 32) = false ∧ Instr.wf .rv32 (.cSrai 1 32) = false := by decide

/-- funct12 values that another row claims (30_encoding R103). -/
theorem test_wf_refuses_claimed_funct12 :
    Instr.wf .rv64 (.fenceSystem 0x000 0 0) = false ∧ Instr.wf .rv64 (.fenceSystem 0x302 0 0) = false ∧
    Instr.wf .rv64 (.fenceSystem 0x120 0 0) = false ∧
    Instr.wf .rv64 (.fenceSystem 0x13F 0 0) = false := by decide

/-- Reserved compressed words (40_compressed R121), and words of another compressed instruction. -/
theorem test_wf_refuses_reserved_compressed :
    Instr.wf .rv64 (.cAddi4spn 1 0) = false ∧ Instr.wf .rv64 (.cAddi 0 1) = false ∧
    Instr.wf .rv64 (.cAddiw 0 1) = false ∧ Instr.wf .rv64 (.cAddi16sp 0) = false ∧
    Instr.wf .rv64 (.cLui 2 1) = false ∧ Instr.wf .rv64 (.cLui 1 0) = false ∧
    Instr.wf .rv64 (.cLwsp 0 1) = false ∧ Instr.wf .rv64 (.cLdsp 0 1) = false ∧
    Instr.wf .rv64 (.cJr 0) = false ∧ Instr.wf .rv64 (.cMv 1 0) = false ∧
    Instr.wf .rv64 (.cJalr 0) = false ∧ Instr.wf .rv64 (.cAdd 1 0) = false := by decide

/-! ## Decoding: every row of the opcode table

The fields of each word stand in the order of the spec's format (30_encoding R75 to R83, 40_compressed
R120 to R165); the values of the fields are those the row fixes, rd = 9, rs1 = 18, rs2 = 11 and
rs3 = 28 (in compressed words 5 and 6 for x13 and x14), and immediates of no symmetry. -/

theorem test_decode_lui_to_bltu :
    decode .rv64 (0b11010010110101001110#20 ++ 0b01001#5 ++ 0b0110111#7) = .ok (.lui 9 0xd2d4e) ∧
    decode .rv64 (0b11010010110101001110#20 ++ 0b01001#5 ++ 0b0010111#7) = .ok (.auipc 9 0xd2d4e) ∧
    decode .rv64 (0b1#1 ++ 0b0101001110#10 ++ 0b1#1 ++ 0b10100101#8 ++ 0b01001#5 ++ 0b1101111#7) = .ok (.jal 9 0xd2d4e) ∧
    decode .rv64 (0b110100101101#12 ++ 0b10010#5 ++ 0b000#3 ++ 0b01001#5 ++ 0b1100111#7) = .ok (.jalr 9 18 0xd2d) ∧
    decode .rv64 (0b1#1 ++ 0b010010#6 ++ 0b01011#5 ++ 0b10010#5 ++ 0b000#3 ++ 0b1101#4 ++ 0b1#1 ++ 0b1100011#7) = .ok (.beq 18 11 0xd2d) ∧
    decode .rv64 (0b1#1 ++ 0b010010#6 ++ 0b01011#5 ++ 0b10010#5 ++ 0b001#3 ++ 0b1101#4 ++ 0b1#1 ++ 0b1100011#7) = .ok (.bne 18 11 0xd2d) ∧
    decode .rv64 (0b1#1 ++ 0b010010#6 ++ 0b01011#5 ++ 0b10010#5 ++ 0b100#3 ++ 0b1101#4 ++ 0b1#1 ++ 0b1100011#7) = .ok (.blt 18 11 0xd2d) ∧
    decode .rv64 (0b1#1 ++ 0b010010#6 ++ 0b01011#5 ++ 0b10010#5 ++ 0b101#3 ++ 0b1101#4 ++ 0b1#1 ++ 0b1100011#7) = .ok (.bge 18 11 0xd2d) ∧
    decode .rv64 (0b1#1 ++ 0b010010#6 ++ 0b01011#5 ++ 0b10010#5 ++ 0b110#3 ++ 0b1101#4 ++ 0b1#1 ++ 0b1100011#7) = .ok (.bltu 18 11 0xd2d) := by decide

theorem test_decode_bgeu_to_sb :
    decode .rv64 (0b1#1 ++ 0b010010#6 ++ 0b01011#5 ++ 0b10010#5 ++ 0b111#3 ++ 0b1101#4 ++ 0b1#1 ++ 0b1100011#7) = .ok (.bgeu 18 11 0xd2d) ∧
    decode .rv64 (0b110100101101#12 ++ 0b10010#5 ++ 0b000#3 ++ 0b01001#5 ++ 0b0000011#7) = .ok (.lb 9 18 0xd2d) ∧
    decode .rv64 (0b110100101101#12 ++ 0b10010#5 ++ 0b001#3 ++ 0b01001#5 ++ 0b0000011#7) = .ok (.lh 9 18 0xd2d) ∧
    decode .rv64 (0b110100101101#12 ++ 0b10010#5 ++ 0b010#3 ++ 0b01001#5 ++ 0b0000011#7) = .ok (.lw 9 18 0xd2d) ∧
    decode .rv64 (0b110100101101#12 ++ 0b10010#5 ++ 0b011#3 ++ 0b01001#5 ++ 0b0000011#7) = .ok (.ld 9 18 0xd2d) ∧
    decode .rv64 (0b110100101101#12 ++ 0b10010#5 ++ 0b100#3 ++ 0b01001#5 ++ 0b0000011#7) = .ok (.lbu 9 18 0xd2d) ∧
    decode .rv64 (0b110100101101#12 ++ 0b10010#5 ++ 0b101#3 ++ 0b01001#5 ++ 0b0000011#7) = .ok (.lhu 9 18 0xd2d) ∧
    decode .rv64 (0b110100101101#12 ++ 0b10010#5 ++ 0b110#3 ++ 0b01001#5 ++ 0b0000011#7) = .ok (.lwu 9 18 0xd2d) ∧
    decode .rv64 (0b1101001#7 ++ 0b01011#5 ++ 0b10010#5 ++ 0b000#3 ++ 0b01101#5 ++ 0b0100011#7) = .ok (.sb 18 11 0xd2d) := by decide

theorem test_decode_sh_to_andi :
    decode .rv64 (0b1101001#7 ++ 0b01011#5 ++ 0b10010#5 ++ 0b001#3 ++ 0b01101#5 ++ 0b0100011#7) = .ok (.sh 18 11 0xd2d) ∧
    decode .rv64 (0b1101001#7 ++ 0b01011#5 ++ 0b10010#5 ++ 0b010#3 ++ 0b01101#5 ++ 0b0100011#7) = .ok (.sw 18 11 0xd2d) ∧
    decode .rv64 (0b1101001#7 ++ 0b01011#5 ++ 0b10010#5 ++ 0b011#3 ++ 0b01101#5 ++ 0b0100011#7) = .ok (.sd 18 11 0xd2d) ∧
    decode .rv64 (0b110100101101#12 ++ 0b10010#5 ++ 0b000#3 ++ 0b01001#5 ++ 0b0010011#7) = .ok (.addi 9 18 0xd2d) ∧
    decode .rv64 (0b110100101101#12 ++ 0b10010#5 ++ 0b010#3 ++ 0b01001#5 ++ 0b0010011#7) = .ok (.slti 9 18 0xd2d) ∧
    decode .rv64 (0b110100101101#12 ++ 0b10010#5 ++ 0b011#3 ++ 0b01001#5 ++ 0b0010011#7) = .ok (.sltiu 9 18 0xd2d) ∧
    decode .rv64 (0b110100101101#12 ++ 0b10010#5 ++ 0b100#3 ++ 0b01001#5 ++ 0b0010011#7) = .ok (.xori 9 18 0xd2d) ∧
    decode .rv64 (0b110100101101#12 ++ 0b10010#5 ++ 0b110#3 ++ 0b01001#5 ++ 0b0010011#7) = .ok (.ori 9 18 0xd2d) ∧
    decode .rv64 (0b110100101101#12 ++ 0b10010#5 ++ 0b111#3 ++ 0b01001#5 ++ 0b0010011#7) = .ok (.andi 9 18 0xd2d) := by decide

theorem test_decode_slli_to_sll :
    decode .rv32 (0b0000000#7 ++ 0b10110#5 ++ 0b10010#5 ++ 0b001#3 ++ 0b01001#5 ++ 0b0010011#7) = .ok (.slli 9 18 22) ∧
    decode .rv32 (0b0000000#7 ++ 0b10110#5 ++ 0b10010#5 ++ 0b101#3 ++ 0b01001#5 ++ 0b0010011#7) = .ok (.srli 9 18 22) ∧
    decode .rv32 (0b0100000#7 ++ 0b10110#5 ++ 0b10010#5 ++ 0b101#3 ++ 0b01001#5 ++ 0b0010011#7) = .ok (.srai 9 18 22) ∧
    decode .rv64 (0b000000#6 ++ 0b110110#6 ++ 0b10010#5 ++ 0b001#3 ++ 0b01001#5 ++ 0b0010011#7) = .ok (.slli 9 18 0x36) ∧
    decode .rv64 (0b000000#6 ++ 0b110110#6 ++ 0b10010#5 ++ 0b101#3 ++ 0b01001#5 ++ 0b0010011#7) = .ok (.srli 9 18 0x36) ∧
    decode .rv64 (0b010000#6 ++ 0b110110#6 ++ 0b10010#5 ++ 0b101#3 ++ 0b01001#5 ++ 0b0010011#7) = .ok (.srai 9 18 0x36) ∧
    decode .rv64 (0b0000000#7 ++ 0b01011#5 ++ 0b10010#5 ++ 0b000#3 ++ 0b01001#5 ++ 0b0110011#7) = .ok (.add 9 18 11) ∧
    decode .rv64 (0b0100000#7 ++ 0b01011#5 ++ 0b10010#5 ++ 0b000#3 ++ 0b01001#5 ++ 0b0110011#7) = .ok (.sub 9 18 11) ∧
    decode .rv64 (0b0000000#7 ++ 0b01011#5 ++ 0b10010#5 ++ 0b001#3 ++ 0b01001#5 ++ 0b0110011#7) = .ok (.sll 9 18 11) := by decide

theorem test_decode_slt_to_fenceI :
    decode .rv64 (0b0000000#7 ++ 0b01011#5 ++ 0b10010#5 ++ 0b010#3 ++ 0b01001#5 ++ 0b0110011#7) = .ok (.slt 9 18 11) ∧
    decode .rv64 (0b0000000#7 ++ 0b01011#5 ++ 0b10010#5 ++ 0b011#3 ++ 0b01001#5 ++ 0b0110011#7) = .ok (.sltu 9 18 11) ∧
    decode .rv64 (0b0000000#7 ++ 0b01011#5 ++ 0b10010#5 ++ 0b100#3 ++ 0b01001#5 ++ 0b0110011#7) = .ok (.xor 9 18 11) ∧
    decode .rv64 (0b0000000#7 ++ 0b01011#5 ++ 0b10010#5 ++ 0b101#3 ++ 0b01001#5 ++ 0b0110011#7) = .ok (.srl 9 18 11) ∧
    decode .rv64 (0b0100000#7 ++ 0b01011#5 ++ 0b10010#5 ++ 0b101#3 ++ 0b01001#5 ++ 0b0110011#7) = .ok (.sra 9 18 11) ∧
    decode .rv64 (0b0000000#7 ++ 0b01011#5 ++ 0b10010#5 ++ 0b110#3 ++ 0b01001#5 ++ 0b0110011#7) = .ok (.or 9 18 11) ∧
    decode .rv64 (0b0000000#7 ++ 0b01011#5 ++ 0b10010#5 ++ 0b111#3 ++ 0b01001#5 ++ 0b0110011#7) = .ok (.and 9 18 11) ∧
    decode .rv64 (0b1000#4 ++ 0b0011#4 ++ 0b1010#4 ++ 0b10010#5 ++ 0b000#3 ++ 0b01001#5 ++ 0b0001111#7) = .ok (.fence 8 3 10 18 9) ∧
    decode .rv64 (0b110100101101#12 ++ 0b10010#5 ++ 0b001#3 ++ 0b01001#5 ++ 0b0001111#7) = .ok (.fenceI 0xd2d 18 9) := by decide

theorem test_decode_ecall_to_csrrs :
    decode .rv64 (0b000000000000#12 ++ 0b10010#5 ++ 0b000#3 ++ 0b01001#5 ++ 0b1110011#7) = .ok (.ecall 18 9) ∧
    decode .rv64 (0b000000000001#12 ++ 0b10010#5 ++ 0b000#3 ++ 0b01001#5 ++ 0b1110011#7) = .ok (.ebreak 18 9) ∧
    decode .rv64 (0b000000000010#12 ++ 0b10010#5 ++ 0b000#3 ++ 0b01001#5 ++ 0b1110011#7) = .ok (.uret 18 9) ∧
    decode .rv64 (0b000100000010#12 ++ 0b10010#5 ++ 0b000#3 ++ 0b01001#5 ++ 0b1110011#7) = .ok (.sret 18 9) ∧
    decode .rv64 (0b001100000010#12 ++ 0b10010#5 ++ 0b000#3 ++ 0b01001#5 ++ 0b1110011#7) = .ok (.mret 18 9) ∧
    decode .rv64 (0b000100000101#12 ++ 0b10010#5 ++ 0b000#3 ++ 0b01001#5 ++ 0b1110011#7) = .ok (.wfi 18 9) ∧
    decode .rv64 (0b0001001#7 ++ 0b01011#5 ++ 0b10010#5 ++ 0b000#3 ++ 0b01001#5 ++ 0b1110011#7) = .ok (.sfenceVma 18 11 9) ∧
    decode .rv64 (0b001100000101#12 ++ 0b10010#5 ++ 0b001#3 ++ 0b01001#5 ++ 0b1110011#7) = .ok (.csrrw 9 0x305 18) ∧
    decode .rv64 (0b001100000101#12 ++ 0b10010#5 ++ 0b010#3 ++ 0b01001#5 ++ 0b1110011#7) = .ok (.csrrs 9 0x305 18) := by decide

theorem test_decode_csrrc_to_div :
    decode .rv64 (0b001100000101#12 ++ 0b10010#5 ++ 0b011#3 ++ 0b01001#5 ++ 0b1110011#7) = .ok (.csrrc 9 0x305 18) ∧
    decode .rv64 (0b001100000101#12 ++ 0b10010#5 ++ 0b101#3 ++ 0b01001#5 ++ 0b1110011#7) = .ok (.csrrwi 9 0x305 18) ∧
    decode .rv64 (0b001100000101#12 ++ 0b10010#5 ++ 0b110#3 ++ 0b01001#5 ++ 0b1110011#7) = .ok (.csrrsi 9 0x305 18) ∧
    decode .rv64 (0b001100000101#12 ++ 0b10010#5 ++ 0b111#3 ++ 0b01001#5 ++ 0b1110011#7) = .ok (.csrrci 9 0x305 18) ∧
    decode .rv64 (0b0000001#7 ++ 0b01011#5 ++ 0b10010#5 ++ 0b000#3 ++ 0b01001#5 ++ 0b0110011#7) = .ok (.mul 9 18 11) ∧
    decode .rv64 (0b0000001#7 ++ 0b01011#5 ++ 0b10010#5 ++ 0b001#3 ++ 0b01001#5 ++ 0b0110011#7) = .ok (.mulh 9 18 11) ∧
    decode .rv64 (0b0000001#7 ++ 0b01011#5 ++ 0b10010#5 ++ 0b010#3 ++ 0b01001#5 ++ 0b0110011#7) = .ok (.mulhsu 9 18 11) ∧
    decode .rv64 (0b0000001#7 ++ 0b01011#5 ++ 0b10010#5 ++ 0b011#3 ++ 0b01001#5 ++ 0b0110011#7) = .ok (.mulhu 9 18 11) ∧
    decode .rv64 (0b0000001#7 ++ 0b01011#5 ++ 0b10010#5 ++ 0b100#3 ++ 0b01001#5 ++ 0b0110011#7) = .ok (.div 9 18 11) := by decide

theorem test_decode_divu_to_subw :
    decode .rv64 (0b0000001#7 ++ 0b01011#5 ++ 0b10010#5 ++ 0b101#3 ++ 0b01001#5 ++ 0b0110011#7) = .ok (.divu 9 18 11) ∧
    decode .rv64 (0b0000001#7 ++ 0b01011#5 ++ 0b10010#5 ++ 0b110#3 ++ 0b01001#5 ++ 0b0110011#7) = .ok (.rem 9 18 11) ∧
    decode .rv64 (0b0000001#7 ++ 0b01011#5 ++ 0b10010#5 ++ 0b111#3 ++ 0b01001#5 ++ 0b0110011#7) = .ok (.remu 9 18 11) ∧
    decode .rv64 (0b110100101101#12 ++ 0b10010#5 ++ 0b000#3 ++ 0b01001#5 ++ 0b0011011#7) = .ok (.addiw 9 18 0xd2d) ∧
    decode .rv64 (0b0000000#7 ++ 0b10110#5 ++ 0b10010#5 ++ 0b001#3 ++ 0b01001#5 ++ 0b0011011#7) = .ok (.slliw 9 18 22) ∧
    decode .rv64 (0b0000000#7 ++ 0b10110#5 ++ 0b10010#5 ++ 0b101#3 ++ 0b01001#5 ++ 0b0011011#7) = .ok (.srliw 9 18 22) ∧
    decode .rv64 (0b0100000#7 ++ 0b10110#5 ++ 0b10010#5 ++ 0b101#3 ++ 0b01001#5 ++ 0b0011011#7) = .ok (.sraiw 9 18 22) ∧
    decode .rv64 (0b0000000#7 ++ 0b01011#5 ++ 0b10010#5 ++ 0b000#3 ++ 0b01001#5 ++ 0b0111011#7) = .ok (.addw 9 18 11) ∧
    decode .rv64 (0b0100000#7 ++ 0b01011#5 ++ 0b10010#5 ++ 0b000#3 ++ 0b01001#5 ++ 0b0111011#7) = .ok (.subw 9 18 11) := by decide

theorem test_decode_sllw_to_lrW :
    decode .rv64 (0b0000000#7 ++ 0b01011#5 ++ 0b10010#5 ++ 0b001#3 ++ 0b01001#5 ++ 0b0111011#7) = .ok (.sllw 9 18 11) ∧
    decode .rv64 (0b0000000#7 ++ 0b01011#5 ++ 0b10010#5 ++ 0b101#3 ++ 0b01001#5 ++ 0b0111011#7) = .ok (.srlw 9 18 11) ∧
    decode .rv64 (0b0100000#7 ++ 0b01011#5 ++ 0b10010#5 ++ 0b101#3 ++ 0b01001#5 ++ 0b0111011#7) = .ok (.sraw 9 18 11) ∧
    decode .rv64 (0b0000001#7 ++ 0b01011#5 ++ 0b10010#5 ++ 0b000#3 ++ 0b01001#5 ++ 0b0111011#7) = .ok (.mulw 9 18 11) ∧
    decode .rv64 (0b0000001#7 ++ 0b01011#5 ++ 0b10010#5 ++ 0b100#3 ++ 0b01001#5 ++ 0b0111011#7) = .ok (.divw 9 18 11) ∧
    decode .rv64 (0b0000001#7 ++ 0b01011#5 ++ 0b10010#5 ++ 0b101#3 ++ 0b01001#5 ++ 0b0111011#7) = .ok (.divuw 9 18 11) ∧
    decode .rv64 (0b0000001#7 ++ 0b01011#5 ++ 0b10010#5 ++ 0b110#3 ++ 0b01001#5 ++ 0b0111011#7) = .ok (.remw 9 18 11) ∧
    decode .rv64 (0b0000001#7 ++ 0b01011#5 ++ 0b10010#5 ++ 0b111#3 ++ 0b01001#5 ++ 0b0111011#7) = .ok (.remuw 9 18 11) ∧
    decode .rv64 (0b00010#5 ++ 1#1 ++ 0#1 ++ 0b01011#5 ++ 0b10010#5 ++ 0b010#3 ++ 0b01001#5 ++ 0b0101111#7) = .ok (.lrW 9 18 11 1 0) := by decide

theorem test_decode_scW_to_amominuW :
    decode .rv64 (0b00011#5 ++ 1#1 ++ 0#1 ++ 0b01011#5 ++ 0b10010#5 ++ 0b010#3 ++ 0b01001#5 ++ 0b0101111#7) = .ok (.scW 9 18 11 1 0) ∧
    decode .rv64 (0b00001#5 ++ 1#1 ++ 0#1 ++ 0b01011#5 ++ 0b10010#5 ++ 0b010#3 ++ 0b01001#5 ++ 0b0101111#7) = .ok (.amoswapW 9 18 11 1 0) ∧
    decode .rv64 (0b00000#5 ++ 1#1 ++ 0#1 ++ 0b01011#5 ++ 0b10010#5 ++ 0b010#3 ++ 0b01001#5 ++ 0b0101111#7) = .ok (.amoaddW 9 18 11 1 0) ∧
    decode .rv64 (0b00100#5 ++ 1#1 ++ 0#1 ++ 0b01011#5 ++ 0b10010#5 ++ 0b010#3 ++ 0b01001#5 ++ 0b0101111#7) = .ok (.amoxorW 9 18 11 1 0) ∧
    decode .rv64 (0b01100#5 ++ 1#1 ++ 0#1 ++ 0b01011#5 ++ 0b10010#5 ++ 0b010#3 ++ 0b01001#5 ++ 0b0101111#7) = .ok (.amoandW 9 18 11 1 0) ∧
    decode .rv64 (0b01000#5 ++ 1#1 ++ 0#1 ++ 0b01011#5 ++ 0b10010#5 ++ 0b010#3 ++ 0b01001#5 ++ 0b0101111#7) = .ok (.amoorW 9 18 11 1 0) ∧
    decode .rv64 (0b10000#5 ++ 1#1 ++ 0#1 ++ 0b01011#5 ++ 0b10010#5 ++ 0b010#3 ++ 0b01001#5 ++ 0b0101111#7) = .ok (.amominW 9 18 11 1 0) ∧
    decode .rv64 (0b10100#5 ++ 1#1 ++ 0#1 ++ 0b01011#5 ++ 0b10010#5 ++ 0b010#3 ++ 0b01001#5 ++ 0b0101111#7) = .ok (.amomaxW 9 18 11 1 0) ∧
    decode .rv64 (0b11000#5 ++ 1#1 ++ 0#1 ++ 0b01011#5 ++ 0b10010#5 ++ 0b010#3 ++ 0b01001#5 ++ 0b0101111#7) = .ok (.amominuW 9 18 11 1 0) := by decide

theorem test_decode_amomaxuW_to_amominD :
    decode .rv64 (0b11100#5 ++ 1#1 ++ 0#1 ++ 0b01011#5 ++ 0b10010#5 ++ 0b010#3 ++ 0b01001#5 ++ 0b0101111#7) = .ok (.amomaxuW 9 18 11 1 0) ∧
    decode .rv64 (0b00010#5 ++ 1#1 ++ 0#1 ++ 0b01011#5 ++ 0b10010#5 ++ 0b011#3 ++ 0b01001#5 ++ 0b0101111#7) = .ok (.lrD 9 18 11 1 0) ∧
    decode .rv64 (0b00011#5 ++ 1#1 ++ 0#1 ++ 0b01011#5 ++ 0b10010#5 ++ 0b011#3 ++ 0b01001#5 ++ 0b0101111#7) = .ok (.scD 9 18 11 1 0) ∧
    decode .rv64 (0b00001#5 ++ 1#1 ++ 0#1 ++ 0b01011#5 ++ 0b10010#5 ++ 0b011#3 ++ 0b01001#5 ++ 0b0101111#7) = .ok (.amoswapD 9 18 11 1 0) ∧
    decode .rv64 (0b00000#5 ++ 1#1 ++ 0#1 ++ 0b01011#5 ++ 0b10010#5 ++ 0b011#3 ++ 0b01001#5 ++ 0b0101111#7) = .ok (.amoaddD 9 18 11 1 0) ∧
    decode .rv64 (0b00100#5 ++ 1#1 ++ 0#1 ++ 0b01011#5 ++ 0b10010#5 ++ 0b011#3 ++ 0b01001#5 ++ 0b0101111#7) = .ok (.amoxorD 9 18 11 1 0) ∧
    decode .rv64 (0b01100#5 ++ 1#1 ++ 0#1 ++ 0b01011#5 ++ 0b10010#5 ++ 0b011#3 ++ 0b01001#5 ++ 0b0101111#7) = .ok (.amoandD 9 18 11 1 0) ∧
    decode .rv64 (0b01000#5 ++ 1#1 ++ 0#1 ++ 0b01011#5 ++ 0b10010#5 ++ 0b011#3 ++ 0b01001#5 ++ 0b0101111#7) = .ok (.amoorD 9 18 11 1 0) ∧
    decode .rv64 (0b10000#5 ++ 1#1 ++ 0#1 ++ 0b01011#5 ++ 0b10010#5 ++ 0b011#3 ++ 0b01001#5 ++ 0b0101111#7) = .ok (.amominD 9 18 11 1 0) := by decide

theorem test_decode_amomaxD_to_fmsubS :
    decode .rv64 (0b10100#5 ++ 1#1 ++ 0#1 ++ 0b01011#5 ++ 0b10010#5 ++ 0b011#3 ++ 0b01001#5 ++ 0b0101111#7) = .ok (.amomaxD 9 18 11 1 0) ∧
    decode .rv64 (0b11000#5 ++ 1#1 ++ 0#1 ++ 0b01011#5 ++ 0b10010#5 ++ 0b011#3 ++ 0b01001#5 ++ 0b0101111#7) = .ok (.amominuD 9 18 11 1 0) ∧
    decode .rv64 (0b11100#5 ++ 1#1 ++ 0#1 ++ 0b01011#5 ++ 0b10010#5 ++ 0b011#3 ++ 0b01001#5 ++ 0b0101111#7) = .ok (.amomaxuD 9 18 11 1 0) ∧
    decode .rv64 (0b110100101101#12 ++ 0b10010#5 ++ 0b010#3 ++ 0b01001#5 ++ 0b0000111#7) = .ok (.flw 9 18 0xd2d) ∧
    decode .rv64 (0b110100101101#12 ++ 0b10010#5 ++ 0b011#3 ++ 0b01001#5 ++ 0b0000111#7) = .ok (.fld 9 18 0xd2d) ∧
    decode .rv64 (0b1101001#7 ++ 0b01011#5 ++ 0b10010#5 ++ 0b010#3 ++ 0b01101#5 ++ 0b0100111#7) = .ok (.fsw 18 11 0xd2d) ∧
    decode .rv64 (0b1101001#7 ++ 0b01011#5 ++ 0b10010#5 ++ 0b011#3 ++ 0b01101#5 ++ 0b0100111#7) = .ok (.fsd 18 11 0xd2d) ∧
    decode .rv64 (0b11100#5 ++ 0b00#2 ++ 0b01011#5 ++ 0b10010#5 ++ 0b011#3 ++ 0b01001#5 ++ 0b1000011#7) = .ok (.fmaddS 9 18 11 28 .rup) ∧
    decode .rv64 (0b11100#5 ++ 0b00#2 ++ 0b01011#5 ++ 0b10010#5 ++ 0b011#3 ++ 0b01001#5 ++ 0b1000111#7) = .ok (.fmsubS 9 18 11 28 .rup) := by decide

theorem test_decode_fnmsubS_to_fsgnjnS :
    decode .rv64 (0b11100#5 ++ 0b00#2 ++ 0b01011#5 ++ 0b10010#5 ++ 0b011#3 ++ 0b01001#5 ++ 0b1001011#7) = .ok (.fnmsubS 9 18 11 28 .rup) ∧
    decode .rv64 (0b11100#5 ++ 0b00#2 ++ 0b01011#5 ++ 0b10010#5 ++ 0b011#3 ++ 0b01001#5 ++ 0b1001111#7) = .ok (.fnmaddS 9 18 11 28 .rup) ∧
    decode .rv64 (0b0000000#7 ++ 0b01011#5 ++ 0b10010#5 ++ 0b011#3 ++ 0b01001#5 ++ 0b1010011#7) = .ok (.faddS 9 18 11 .rup) ∧
    decode .rv64 (0b0000100#7 ++ 0b01011#5 ++ 0b10010#5 ++ 0b011#3 ++ 0b01001#5 ++ 0b1010011#7) = .ok (.fsubS 9 18 11 .rup) ∧
    decode .rv64 (0b0001000#7 ++ 0b01011#5 ++ 0b10010#5 ++ 0b011#3 ++ 0b01001#5 ++ 0b1010011#7) = .ok (.fmulS 9 18 11 .rup) ∧
    decode .rv64 (0b0001100#7 ++ 0b01011#5 ++ 0b10010#5 ++ 0b011#3 ++ 0b01001#5 ++ 0b1010011#7) = .ok (.fdivS 9 18 11 .rup) ∧
    decode .rv64 (0b0101100#7 ++ 0b00000#5 ++ 0b10010#5 ++ 0b011#3 ++ 0b01001#5 ++ 0b1010011#7) = .ok (.fsqrtS 9 18 .rup) ∧
    decode .rv64 (0b0010000#7 ++ 0b01011#5 ++ 0b10010#5 ++ 0b000#3 ++ 0b01001#5 ++ 0b1010011#7) = .ok (.fsgnjS 9 18 11) ∧
    decode .rv64 (0b0010000#7 ++ 0b01011#5 ++ 0b10010#5 ++ 0b001#3 ++ 0b01001#5 ++ 0b1010011#7) = .ok (.fsgnjnS 9 18 11) := by decide

theorem test_decode_fsgnjxS_to_fcvtLS :
    decode .rv64 (0b0010000#7 ++ 0b01011#5 ++ 0b10010#5 ++ 0b010#3 ++ 0b01001#5 ++ 0b1010011#7) = .ok (.fsgnjxS 9 18 11) ∧
    decode .rv64 (0b0010100#7 ++ 0b01011#5 ++ 0b10010#5 ++ 0b000#3 ++ 0b01001#5 ++ 0b1010011#7) = .ok (.fminS 9 18 11) ∧
    decode .rv64 (0b0010100#7 ++ 0b01011#5 ++ 0b10010#5 ++ 0b001#3 ++ 0b01001#5 ++ 0b1010011#7) = .ok (.fmaxS 9 18 11) ∧
    decode .rv64 (0b1010000#7 ++ 0b01011#5 ++ 0b10010#5 ++ 0b000#3 ++ 0b01001#5 ++ 0b1010011#7) = .ok (.fleS 9 18 11) ∧
    decode .rv64 (0b1010000#7 ++ 0b01011#5 ++ 0b10010#5 ++ 0b001#3 ++ 0b01001#5 ++ 0b1010011#7) = .ok (.fltS 9 18 11) ∧
    decode .rv64 (0b1010000#7 ++ 0b01011#5 ++ 0b10010#5 ++ 0b010#3 ++ 0b01001#5 ++ 0b1010011#7) = .ok (.feqS 9 18 11) ∧
    decode .rv64 (0b1100000#7 ++ 0b00000#5 ++ 0b10010#5 ++ 0b011#3 ++ 0b01001#5 ++ 0b1010011#7) = .ok (.fcvtWS 9 18 .rup) ∧
    decode .rv64 (0b1100000#7 ++ 0b00001#5 ++ 0b10010#5 ++ 0b011#3 ++ 0b01001#5 ++ 0b1010011#7) = .ok (.fcvtWuS 9 18 .rup) ∧
    decode .rv64 (0b1100000#7 ++ 0b00010#5 ++ 0b10010#5 ++ 0b011#3 ++ 0b01001#5 ++ 0b1010011#7) = .ok (.fcvtLS 9 18 .rup) := by decide

theorem test_decode_fcvtLuS_to_fnmsubD :
    decode .rv64 (0b1100000#7 ++ 0b00011#5 ++ 0b10010#5 ++ 0b011#3 ++ 0b01001#5 ++ 0b1010011#7) = .ok (.fcvtLuS 9 18 .rup) ∧
    decode .rv64 (0b1101000#7 ++ 0b00000#5 ++ 0b10010#5 ++ 0b011#3 ++ 0b01001#5 ++ 0b1010011#7) = .ok (.fcvtSW 9 18 .rup) ∧
    decode .rv64 (0b1101000#7 ++ 0b00001#5 ++ 0b10010#5 ++ 0b011#3 ++ 0b01001#5 ++ 0b1010011#7) = .ok (.fcvtSWu 9 18 .rup) ∧
    decode .rv64 (0b1101000#7 ++ 0b00010#5 ++ 0b10010#5 ++ 0b011#3 ++ 0b01001#5 ++ 0b1010011#7) = .ok (.fcvtSL 9 18 .rup) ∧
    decode .rv64 (0b1101000#7 ++ 0b00011#5 ++ 0b10010#5 ++ 0b011#3 ++ 0b01001#5 ++ 0b1010011#7) = .ok (.fcvtSLu 9 18 .rup) ∧
    decode .rv64 (0b1110000#7 ++ 0b00000#5 ++ 0b10010#5 ++ 0b001#3 ++ 0b01001#5 ++ 0b1010011#7) = .ok (.fclassS 9 18) ∧
    decode .rv64 (0b11100#5 ++ 0b01#2 ++ 0b01011#5 ++ 0b10010#5 ++ 0b011#3 ++ 0b01001#5 ++ 0b1000011#7) = .ok (.fmaddD 9 18 11 28 .rup) ∧
    decode .rv64 (0b11100#5 ++ 0b01#2 ++ 0b01011#5 ++ 0b10010#5 ++ 0b011#3 ++ 0b01001#5 ++ 0b1000111#7) = .ok (.fmsubD 9 18 11 28 .rup) ∧
    decode .rv64 (0b11100#5 ++ 0b01#2 ++ 0b01011#5 ++ 0b10010#5 ++ 0b011#3 ++ 0b01001#5 ++ 0b1001011#7) = .ok (.fnmsubD 9 18 11 28 .rup) := by decide

theorem test_decode_fnmaddD_to_fsgnjxD :
    decode .rv64 (0b11100#5 ++ 0b01#2 ++ 0b01011#5 ++ 0b10010#5 ++ 0b011#3 ++ 0b01001#5 ++ 0b1001111#7) = .ok (.fnmaddD 9 18 11 28 .rup) ∧
    decode .rv64 (0b0000001#7 ++ 0b01011#5 ++ 0b10010#5 ++ 0b011#3 ++ 0b01001#5 ++ 0b1010011#7) = .ok (.faddD 9 18 11 .rup) ∧
    decode .rv64 (0b0000101#7 ++ 0b01011#5 ++ 0b10010#5 ++ 0b011#3 ++ 0b01001#5 ++ 0b1010011#7) = .ok (.fsubD 9 18 11 .rup) ∧
    decode .rv64 (0b0001001#7 ++ 0b01011#5 ++ 0b10010#5 ++ 0b011#3 ++ 0b01001#5 ++ 0b1010011#7) = .ok (.fmulD 9 18 11 .rup) ∧
    decode .rv64 (0b0001101#7 ++ 0b01011#5 ++ 0b10010#5 ++ 0b011#3 ++ 0b01001#5 ++ 0b1010011#7) = .ok (.fdivD 9 18 11 .rup) ∧
    decode .rv64 (0b0101101#7 ++ 0b00000#5 ++ 0b10010#5 ++ 0b011#3 ++ 0b01001#5 ++ 0b1010011#7) = .ok (.fsqrtD 9 18 .rup) ∧
    decode .rv64 (0b0010001#7 ++ 0b01011#5 ++ 0b10010#5 ++ 0b000#3 ++ 0b01001#5 ++ 0b1010011#7) = .ok (.fsgnjD 9 18 11) ∧
    decode .rv64 (0b0010001#7 ++ 0b01011#5 ++ 0b10010#5 ++ 0b001#3 ++ 0b01001#5 ++ 0b1010011#7) = .ok (.fsgnjnD 9 18 11) ∧
    decode .rv64 (0b0010001#7 ++ 0b01011#5 ++ 0b10010#5 ++ 0b010#3 ++ 0b01001#5 ++ 0b1010011#7) = .ok (.fsgnjxD 9 18 11) := by decide

theorem test_decode_fminD_to_fcvtLuD :
    decode .rv64 (0b0010101#7 ++ 0b01011#5 ++ 0b10010#5 ++ 0b000#3 ++ 0b01001#5 ++ 0b1010011#7) = .ok (.fminD 9 18 11) ∧
    decode .rv64 (0b0010101#7 ++ 0b01011#5 ++ 0b10010#5 ++ 0b001#3 ++ 0b01001#5 ++ 0b1010011#7) = .ok (.fmaxD 9 18 11) ∧
    decode .rv64 (0b1010001#7 ++ 0b01011#5 ++ 0b10010#5 ++ 0b000#3 ++ 0b01001#5 ++ 0b1010011#7) = .ok (.fleD 9 18 11) ∧
    decode .rv64 (0b1010001#7 ++ 0b01011#5 ++ 0b10010#5 ++ 0b001#3 ++ 0b01001#5 ++ 0b1010011#7) = .ok (.fltD 9 18 11) ∧
    decode .rv64 (0b1010001#7 ++ 0b01011#5 ++ 0b10010#5 ++ 0b010#3 ++ 0b01001#5 ++ 0b1010011#7) = .ok (.feqD 9 18 11) ∧
    decode .rv64 (0b1100001#7 ++ 0b00000#5 ++ 0b10010#5 ++ 0b011#3 ++ 0b01001#5 ++ 0b1010011#7) = .ok (.fcvtWD 9 18 .rup) ∧
    decode .rv64 (0b1100001#7 ++ 0b00001#5 ++ 0b10010#5 ++ 0b011#3 ++ 0b01001#5 ++ 0b1010011#7) = .ok (.fcvtWuD 9 18 .rup) ∧
    decode .rv64 (0b1100001#7 ++ 0b00010#5 ++ 0b10010#5 ++ 0b011#3 ++ 0b01001#5 ++ 0b1010011#7) = .ok (.fcvtLD 9 18 .rup) ∧
    decode .rv64 (0b1100001#7 ++ 0b00011#5 ++ 0b10010#5 ++ 0b011#3 ++ 0b01001#5 ++ 0b1010011#7) = .ok (.fcvtLuD 9 18 .rup) := by decide

theorem test_decode_fcvtDW_to_fmvDX :
    decode .rv64 (0b1101001#7 ++ 0b00000#5 ++ 0b10010#5 ++ 0b011#3 ++ 0b01001#5 ++ 0b1010011#7) = .ok (.fcvtDW 9 18 .rup) ∧
    decode .rv64 (0b1101001#7 ++ 0b00001#5 ++ 0b10010#5 ++ 0b011#3 ++ 0b01001#5 ++ 0b1010011#7) = .ok (.fcvtDWu 9 18 .rup) ∧
    decode .rv64 (0b1101001#7 ++ 0b00010#5 ++ 0b10010#5 ++ 0b011#3 ++ 0b01001#5 ++ 0b1010011#7) = .ok (.fcvtDL 9 18 .rup) ∧
    decode .rv64 (0b1101001#7 ++ 0b00011#5 ++ 0b10010#5 ++ 0b011#3 ++ 0b01001#5 ++ 0b1010011#7) = .ok (.fcvtDLu 9 18 .rup) ∧
    decode .rv64 (0b1110001#7 ++ 0b00000#5 ++ 0b10010#5 ++ 0b001#3 ++ 0b01001#5 ++ 0b1010011#7) = .ok (.fclassD 9 18) ∧
    decode .rv64 (0b1110000#7 ++ 0b00000#5 ++ 0b10010#5 ++ 0b000#3 ++ 0b01001#5 ++ 0b1010011#7) = .ok (.fmvXW 9 18) ∧
    decode .rv64 (0b1111000#7 ++ 0b00000#5 ++ 0b10010#5 ++ 0b000#3 ++ 0b01001#5 ++ 0b1010011#7) = .ok (.fmvWX 9 18) ∧
    decode .rv64 (0b1110001#7 ++ 0b00000#5 ++ 0b10010#5 ++ 0b000#3 ++ 0b01001#5 ++ 0b1010011#7) = .ok (.fmvXD 9 18) ∧
    decode .rv64 (0b1111001#7 ++ 0b00000#5 ++ 0b10010#5 ++ 0b000#3 ++ 0b01001#5 ++ 0b1010011#7) = .ok (.fmvDX 9 18) := by decide

theorem test_decode_fcvtSD_to_cFsd :
    decode .rv64 (0b0100000#7 ++ 0b00001#5 ++ 0b10010#5 ++ 0b011#3 ++ 0b01001#5 ++ 0b1010011#7) = .ok (.fcvtSD 9 18 .rup) ∧
    decode .rv64 (0b0100001#7 ++ 0b00000#5 ++ 0b10010#5 ++ 0b011#3 ++ 0b01001#5 ++ 0b1010011#7) = .ok (.fcvtDS 9 18 .rup) ∧
    decode .rv64 (0b011111111111#12 ++ 0b10010#5 ++ 0b000#3 ++ 0b01001#5 ++ 0b1110011#7) = .ok (.fenceSystem 0x7ff 18 9) ∧
    decode .rv64 (0#16 ++ 0b000#3 ++ 0b00110101#8 ++ 0b101#3 ++ 0b00#2) = .ok (.cAddi4spn 5 0xd2) ∧
    decode .rv64 (0#16 ++ 0b001#3 ++ 0b010#3 ++ 0b110#3 ++ 0b11#2 ++ 0b101#3 ++ 0b00#2) = .ok (.cFld 5 6 26) ∧
    decode .rv64 (0#16 ++ 0b010#3 ++ 0b101#3 ++ 0b110#3 ++ 0b01#2 ++ 0b101#3 ++ 0b00#2) = .ok (.cLw 5 6 26) ∧
    decode .rv32 (0#16 ++ 0b011#3 ++ 0b101#3 ++ 0b110#3 ++ 0b01#2 ++ 0b101#3 ++ 0b00#2) = .ok (.cFlw 5 6 26) ∧
    decode .rv64 (0#16 ++ 0b011#3 ++ 0b010#3 ++ 0b110#3 ++ 0b11#2 ++ 0b101#3 ++ 0b00#2) = .ok (.cLd 5 6 26) ∧
    decode .rv64 (0#16 ++ 0b101#3 ++ 0b010#3 ++ 0b110#3 ++ 0b11#2 ++ 0b101#3 ++ 0b00#2) = .ok (.cFsd 6 5 26) := by decide

theorem test_decode_cSw_to_cAddi16sp :
    decode .rv64 (0#16 ++ 0b110#3 ++ 0b101#3 ++ 0b110#3 ++ 0b01#2 ++ 0b101#3 ++ 0b00#2) = .ok (.cSw 6 5 26) ∧
    decode .rv32 (0#16 ++ 0b111#3 ++ 0b101#3 ++ 0b110#3 ++ 0b01#2 ++ 0b101#3 ++ 0b00#2) = .ok (.cFsw 6 5 26) ∧
    decode .rv64 (0#16 ++ 0b111#3 ++ 0b010#3 ++ 0b110#3 ++ 0b11#2 ++ 0b101#3 ++ 0b00#2) = .ok (.cSd 6 5 26) ∧
    decode .rv64 (0#16 ++ 0b000#3 ++ 0b1#1 ++ 0b00000#5 ++ 0b10100#5 ++ 0b01#2) = .ok (.cNop 0x34) ∧
    decode .rv64 (0#16 ++ 0b000#3 ++ 0b1#1 ++ 0b01001#5 ++ 0b10100#5 ++ 0b01#2) = .ok (.cAddi 9 0x34) ∧
    decode .rv32 (0#16 ++ 0b001#3 ++ 0b10011001101#11 ++ 0b01#2) = .ok (.cJal 0x696) ∧
    decode .rv64 (0#16 ++ 0b001#3 ++ 0b1#1 ++ 0b01001#5 ++ 0b10100#5 ++ 0b01#2) = .ok (.cAddiw 9 0x34) ∧
    decode .rv64 (0#16 ++ 0b010#3 ++ 0b1#1 ++ 0b01001#5 ++ 0b10100#5 ++ 0b01#2) = .ok (.cLi 9 0x34) ∧
    decode .rv64 (0#16 ++ 0b011#3 ++ 0b1#1 ++ 0b00010#5 ++ 0b01100#5 ++ 0b01#2) = .ok (.cAddi16sp 0x34) := by decide

theorem test_decode_cLui_to_cSubw :
    decode .rv64 (0#16 ++ 0b011#3 ++ 0b1#1 ++ 0b01001#5 ++ 0b10100#5 ++ 0b01#2) = .ok (.cLui 9 0x34) ∧
    decode .rv64 (0#16 ++ 0b100#3 ++ 0b1#1 ++ 0b00#2 ++ 0b110#3 ++ 0b10100#5 ++ 0b01#2) = .ok (.cSrli 6 0x34) ∧
    decode .rv64 (0#16 ++ 0b100#3 ++ 0b1#1 ++ 0b01#2 ++ 0b110#3 ++ 0b10100#5 ++ 0b01#2) = .ok (.cSrai 6 0x34) ∧
    decode .rv64 (0#16 ++ 0b100#3 ++ 0b1#1 ++ 0b10#2 ++ 0b110#3 ++ 0b10100#5 ++ 0b01#2) = .ok (.cAndi 6 0x34) ∧
    decode .rv64 (0#16 ++ 0b100011#6 ++ 0b110#3 ++ 0b00#2 ++ 0b101#3 ++ 0b01#2) = .ok (.cSub 6 5) ∧
    decode .rv64 (0#16 ++ 0b100011#6 ++ 0b110#3 ++ 0b01#2 ++ 0b101#3 ++ 0b01#2) = .ok (.cXor 6 5) ∧
    decode .rv64 (0#16 ++ 0b100011#6 ++ 0b110#3 ++ 0b10#2 ++ 0b101#3 ++ 0b01#2) = .ok (.cOr 6 5) ∧
    decode .rv64 (0#16 ++ 0b100011#6 ++ 0b110#3 ++ 0b11#2 ++ 0b101#3 ++ 0b01#2) = .ok (.cAnd 6 5) ∧
    decode .rv64 (0#16 ++ 0b100111#6 ++ 0b110#3 ++ 0b00#2 ++ 0b101#3 ++ 0b01#2) = .ok (.cSubw 6 5) := by decide

theorem test_decode_cAddw_to_cLdsp :
    decode .rv64 (0#16 ++ 0b100111#6 ++ 0b110#3 ++ 0b01#2 ++ 0b101#3 ++ 0b01#2) = .ok (.cAddw 6 5) ∧
    decode .rv64 (0#16 ++ 0b101#3 ++ 0b10011001101#11 ++ 0b01#2) = .ok (.cJ 0x696) ∧
    decode .rv64 (0#16 ++ 0b110#3 ++ 0b100#3 ++ 0b110#3 ++ 0b10101#5 ++ 0b01#2) = .ok (.cBeqz 6 0xd2) ∧
    decode .rv64 (0#16 ++ 0b111#3 ++ 0b100#3 ++ 0b110#3 ++ 0b10101#5 ++ 0b01#2) = .ok (.cBnez 6 0xd2) ∧
    decode .rv64 (0#16 ++ 0b000#3 ++ 0b1#1 ++ 0b01001#5 ++ 0b10100#5 ++ 0b10#2) = .ok (.cSlli 9 0x34) ∧
    decode .rv64 (0#16 ++ 0b001#3 ++ 0b1#1 ++ 0b01001#5 ++ 0b00110#5 ++ 0b10#2) = .ok (.cFldsp 9 0x34) ∧
    decode .rv64 (0#16 ++ 0b010#3 ++ 0b0#1 ++ 0b01001#5 ++ 0b10011#5 ++ 0b10#2) = .ok (.cLwsp 9 0x34) ∧
    decode .rv32 (0#16 ++ 0b011#3 ++ 0b0#1 ++ 0b01001#5 ++ 0b10011#5 ++ 0b10#2) = .ok (.cFlwsp 9 0x34) ∧
    decode .rv64 (0#16 ++ 0b011#3 ++ 0b1#1 ++ 0b01001#5 ++ 0b00110#5 ++ 0b10#2) = .ok (.cLdsp 9 0x34) := by decide

theorem test_decode_cJr_to_cSdsp :
    decode .rv64 (0#16 ++ 0b1000#4 ++ 0b01001#5 ++ 0b00000#5 ++ 0b10#2) = .ok (.cJr 9) ∧
    decode .rv64 (0#16 ++ 0b1000#4 ++ 0b01001#5 ++ 0b01011#5 ++ 0b10#2) = .ok (.cMv 9 11) ∧
    decode .rv64 (0#16 ++ 0b1001#4 ++ 0b00000#5 ++ 0b00000#5 ++ 0b10#2) = .ok (.cEbreak) ∧
    decode .rv64 (0#16 ++ 0b1001#4 ++ 0b01001#5 ++ 0b00000#5 ++ 0b10#2) = .ok (.cJalr 9) ∧
    decode .rv64 (0#16 ++ 0b1001#4 ++ 0b01001#5 ++ 0b01011#5 ++ 0b10#2) = .ok (.cAdd 9 11) ∧
    decode .rv64 (0#16 ++ 0b101#3 ++ 0b100110#6 ++ 0b01011#5 ++ 0b10#2) = .ok (.cFsdsp 11 0x34) ∧
    decode .rv64 (0#16 ++ 0b110#3 ++ 0b010011#6 ++ 0b01011#5 ++ 0b10#2) = .ok (.cSwsp 11 0x34) ∧
    decode .rv32 (0#16 ++ 0b111#3 ++ 0b010011#6 ++ 0b01011#5 ++ 0b10#2) = .ok (.cFswsp 11 0x34) ∧
    decode .rv64 (0#16 ++ 0b111#3 ++ 0b100110#6 ++ 0b01011#5 ++ 0b10#2) = .ok (.cSdsp 11 0x34) := by decide

/-! ## One step: vectors of 95_test_vectors -/

/-- The reset state at an XLEN. -/
def boot (xl : XLen) : State := State.resetFor { Config.recommended with xlen := xl }

/-- The step on the word `w` answers a next state, and `ok` holds of it. -/
def runs (s : State) (w : IWord) (ok : State → Bool) : Bool :=
  match step { s with stream := [w] } with
  | .next t => ok t
  | _ => false

/-- The low `n` bytes of `v` at `a`. -/
def put (s : State) (a n v : Nat) : State :=
  { s with mem := storeBytes s.mem a (BitVec.ofNat 64 v) n }

/-- Other parameters. -/
def withCfg (s : State) (f : Config → Config) : State := { s with cfg := f s.cfg }

/-- 95_test_vectors S.1: addi x0, x0, 5 (write to x0). -/
theorem test_addi_s_1 :
    runs (boot .rv32) 0x500013
      (fun t => t.getX 0 == 0) = true := by decide

/-- 95_test_vectors S.2: addi x1, x0, 5. -/
theorem test_addi_s_2 :
    runs (boot .rv32) 0x500093
      (fun t => t.getX 1 == 5 && t.pc == 4) = true := by decide

/-- 95_test_vectors S.3: div x3, x1, x0. -/
theorem test_div_s_3 :
    runs ((boot .rv32).setX 1 0x3039) 0x200c1b3
      (fun t => t.getX 3 == 0xffffffff) = true := by decide

/-- 95_test_vectors S.5: div x3, x1, x2. -/
theorem test_div_s_5 :
    runs (((boot .rv64).setX 1 0x8000000000000000).setX 2 0xffffffffffffffff) 0x220c1b3
      (fun t => t.getX 3 == 0x8000000000000000) = true := by decide

/-- 95_test_vectors S.6: rem x3, x1, x2. -/
theorem test_rem_s_6 :
    runs (((boot .rv64).setX 1 0x8000000000000000).setX 2 0xffffffffffffffff) 0x220e1b3
      (fun t => t.getX 3 == 0) = true := by decide

/-- 95_test_vectors S.8: bne x0, x0, +8. -/
theorem test_bne_s_8 :
    runs ({ boot .rv32 with pc := 0x200 }) 0x1463
      (fun t => t.pc == 0x204) = true := by decide

/-- 95_test_vectors S.10: amoadd.w x3, x2, (x1). -/
theorem test_amoadd_w_s_10 :
    runs (put (((boot .rv32).setX 1 0x100).setX 2 5) 0x100 4 0xa) 0x20a1af
      (fun t => t.getX 3 == 0xa && loadBytes t.mem 0x100 4 == 0xf) = true := by decide

/-- 95_test_vectors S.13: ecall at M. -/
theorem test_ecall_s_13 :
    runs ({ (boot .rv32).setCsr 0x305 0x1000 with pc := 0x200 }) 0x73
      (fun t => t.pc == 0x1000 && t.priv == 3 && t.getCsr 0x341 == 0x200 && t.getCsr 0x342 == 0xb) = true := by decide

/-- 95_test_vectors 41.1: add x3, x1, x2. -/
theorem test_add_41_1 :
    runs (((boot .rv32).setX 1 0x7fffffff).setX 2 1) 0x2081b3
      (fun t => t.getX 3 == 0x80000000) = true := by decide

/-- 95_test_vectors 41.2: sub x3, x1, x2. -/
theorem test_sub_41_2 :
    runs (((boot .rv32).setX 1 0).setX 2 1) 0x402081b3
      (fun t => t.getX 3 == 0xffffffff) = true := by decide

/-- 95_test_vectors 41.4: sll x3, x1, x2 (XLEN 32 uses x2[4:0]). -/
theorem test_sll_41_4 :
    runs (((boot .rv32).setX 1 1).setX 2 0x23) 0x2091b3
      (fun t => t.getX 3 == 8) = true := by decide

/-- 95_test_vectors 41.5: slt x3, x1, x2. -/
theorem test_slt_41_5 :
    runs (((boot .rv32).setX 1 0xffffffff).setX 2 1) 0x20a1b3
      (fun t => t.getX 3 == 1) = true := by decide

/-- 95_test_vectors 41.6: sltu x3, x1, x2. -/
theorem test_sltu_41_6 :
    runs (((boot .rv32).setX 1 0xffffffff).setX 2 1) 0x20b1b3
      (fun t => t.getX 3 == 0) = true := by decide

/-- 95_test_vectors 41.9: sra x3, x1, x2. -/
theorem test_sra_41_9 :
    runs (((boot .rv32).setX 1 0x80000000).setX 2 0x3f) 0x4020d1b3
      (fun t => t.getX 3 == 0xffffffff) = true := by decide

/-- 95_test_vectors 41.14: sltiu x3, x1, -1 (immediate is 0xFFFFFFFF unsigned). -/
theorem test_sltiu_41_14 :
    runs ((boot .rv32).setX 1 0xfffffffe) 0xfff0b193
      (fun t => t.getX 3 == 1) = true := by decide

/-- 95_test_vectors 41.17: ori x3, x1, -2048. -/
theorem test_ori_41_17 :
    runs ((boot .rv32).setX 1 0) 0x8000e193
      (fun t => t.getX 3 == 0xfffff800) = true := by decide

/-- 95_test_vectors 41.20: slli x3, x1, 63. -/
theorem test_slli_41_20 :
    runs ((boot .rv64).setX 1 3) 0x3f09193
      (fun t => t.getX 3 == 0x8000000000000000) = true := by decide

/-- 95_test_vectors 41.23: srai x3, x1, 40. -/
theorem test_srai_41_23 :
    runs ((boot .rv64).setX 1 0x8000000000000000) 0x4280d193
      (fun t => t.getX 3 == 0xffffffffff800000) = true := by decide

/-- 95_test_vectors 41.24: lui x3, 0xFFFFF. -/
theorem test_lui_41_24 :
    runs (boot .rv64) 0xfffff1b7
      (fun t => t.getX 3 == 0xfffffffffffff000) = true := by decide

/-- 95_test_vectors 41.27: auipc x3, 0xFFFFF. -/
theorem test_auipc_41_27 :
    runs ({ boot .rv64 with pc := 0x10 }) 0xfffff197
      (fun t => t.getX 3 == 0xfffffffffffff010) = true := by decide

/-- 95_test_vectors 42.3: mulh x3, x1, x2. -/
theorem test_mulh_42_3 :
    runs (((boot .rv32).setX 1 0x80000000).setX 2 0x80000000) 0x22091b3
      (fun t => t.getX 3 == 0x40000000) = true := by decide

/-- 95_test_vectors 42.6: mulhsu x3, x1, x2. -/
theorem test_mulhsu_42_6 :
    runs (((boot .rv64).setX 1 0x8000000000000000).setX 2 2) 0x220a1b3
      (fun t => t.getX 3 == 0xffffffffffffffff) = true := by decide

/-- 95_test_vectors 42.8: mulhu x3, x1, x2. -/
theorem test_mulhu_42_8 :
    runs (((boot .rv64).setX 1 0xffffffffffffffff).setX 2 0xffffffffffffffff) 0x220b1b3
      (fun t => t.getX 3 == 0xfffffffffffffffe) = true := by decide

/-- 95_test_vectors 42.12: divu x3, x1, x2. -/
theorem test_divu_42_12 :
    runs (((boot .rv32).setX 1 0xffffffff).setX 2 2) 0x220d1b3
      (fun t => t.getX 3 == 0x7fffffff) = true := by decide

/-- 95_test_vectors 42.15: rem x3, x1, x2. -/
theorem test_rem_42_15 :
    runs (((boot .rv32).setX 1 7).setX 2 0xfffffffe) 0x220e1b3
      (fun t => t.getX 3 == 1) = true := by decide

/-- 95_test_vectors 42.18: remu x3, x1, x2 (by zero). -/
theorem test_remu_42_18 :
    runs (((boot .rv32).setX 1 0xffffffff).setX 2 0) 0x220f1b3
      (fun t => t.getX 3 == 0xffffffff) = true := by decide

/-- 95_test_vectors 43.3: lh x3, 1(x1) (misaligned). -/
theorem test_lh_43_3 :
    runs (put ((boot .rv32).setX 1 0x100) 0x100 8 0xf0e0d0c0b0a09080) 0x109183
      (fun t => t.getX 3 == 0xffffa090) = true := by decide

/-- 95_test_vectors 43.5: ld x3, 0(x1). -/
theorem test_ld_43_5 :
    runs (put ((boot .rv64).setX 1 0x100) 0x100 8 0xf0e0d0c0b0a09080) 0xb183
      (fun t => t.getX 3 == 0xf0e0d0c0b0a09080) = true := by decide

/-- 95_test_vectors 43.6: lbu x3, -1(x1). -/
theorem test_lbu_43_6 :
    runs (put ((boot .rv32).setX 1 0x101) 0x100 8 0xf0e0d0c0b0a09080) 0xfff0c183
      (fun t => t.getX 3 == 0x80) = true := by decide

/-- 95_test_vectors 43.8: lwu x3, 4(x1). -/
theorem test_lwu_43_8 :
    runs (put ((boot .rv64).setX 1 0x100) 0x100 8 0xf0e0d0c0b0a09080) 0x40e183
      (fun t => t.getX 3 == 0xf0e0d0c0) = true := by decide

/-- 95_test_vectors 43.10: lw x3, 0(x1) (out of range, trap). -/
theorem test_lw_43_10 :
    runs ({ withCfg ((((boot .rv32).setX 1 0xffffe).setX 3 7).setCsr 0x305 0x400) fun c => { c with oobPolicy := .trap } with pc := 0x20 }) 0xa183
      (fun t => t.getX 3 == 7 && t.pc == 0x400 && t.getCsr 0x341 == 0x20 && t.getCsr 0x342 == 5) = true := by decide

/-- 95_test_vectors 43.13: sh x2, 1(x1) (misaligned). -/
theorem test_sh_43_13 :
    runs (((boot .rv32).setX 1 0x100).setX 2 0x12345678) 0x2090a3
      (fun t => loadBytes t.mem 0x100 4 == 0x567800) = true := by decide

/-- 95_test_vectors 43.15: sd x2, 0(x1). -/
theorem test_sd_43_15 :
    runs (((boot .rv64).setX 1 0x100).setX 2 0x123456789abcdef) 0x20b023
      (fun t => loadBytes t.mem 0x100 8 == 0x123456789abcdef) = true := by decide

/-- 95_test_vectors 43.16: sw x2, 0(x1) (partly out of range, zero). -/
theorem test_sw_43_16 :
    runs (((boot .rv32).setX 1 0xffffd).setX 2 0x11223344) 0x20a023
      (fun t => loadBytes t.mem 0xffffd 3 == 0) = true := by decide

/-- 95_test_vectors 44.1: beq x1, x2, -16. -/
theorem test_beq_44_1 :
    runs ({ ((boot .rv32).setX 1 5).setX 2 5 with pc := 0x100 }) 0xfe2088e3
      (fun t => t.pc == 0xf0) = true := by decide

/-- 95_test_vectors 44.4: bge x1, x2, +8. -/
theorem test_bge_44_4 :
    runs ({ ((boot .rv32).setX 1 0xffffffff).setX 2 0 with pc := 0x100 }) 0x20d463
      (fun t => t.pc == 0x104) = true := by decide

/-- 95_test_vectors 44.6: bgeu x1, x2, +8. -/
theorem test_bgeu_44_6 :
    runs ({ ((boot .rv32).setX 1 0xffffffff).setX 2 0 with pc := 0x100 }) 0x20f463
      (fun t => t.pc == 0x108) = true := by decide

/-- 95_test_vectors 44.10: jalr x1, 3(x1). -/
theorem test_jalr_44_10 :
    runs ({ (boot .rv32).setX 1 0x200 with pc := 0x100 }) 0x3080e7
      (fun t => t.getX 1 == 0x104 && t.pc == 0x202) = true := by decide

/-- 95_test_vectors 44.11: jalr x0, -1(x5). -/
theorem test_jalr_44_11 :
    runs ({ (boot .rv64).setX 5 0x1000 with pc := 0x100 }) 0xfff28067
      (fun t => t.pc == 0xffe) = true := by decide

/-- 95_test_vectors 45.3: ecall (from S, TRAP_CSRS = by_level). -/
theorem test_ecall_45_3 :
    runs ({ withCfg ((boot .rv32).setCsr 0x305 0x400) fun c => { c with trapCsrs := .byLevel } with pc := 0x80, priv := 1 }) 0x73
      (fun t => t.pc == 0x400 && t.priv == 3 && t.getCsr 0x141 == 0x80 && t.getCsr 0x142 == 9 && t.getCsr 0x341 == 0 && t.getCsr 0x342 == 0) = true := by decide

/-- 95_test_vectors 45.6: uret. -/
theorem test_uret_45_6 :
    runs ({ (boot .rv32).setCsr 0x305 0x400 with pc := 0x10, priv := 0 }) 0x200073
      (fun t => t.pc == 0x400 && t.priv == 3 && t.getCsr 0x341 == 0x10 && t.getCsr 0x342 == 2 && t.getCsr 0x300 == 0) = true := by decide

/-- 95_test_vectors 45.7: mret. -/
theorem test_mret_45_7 :
    runs (((boot .rv32).setCsr 0x300 0x1880).setCsr 0x341 0x200) 0x30200073
      (fun t => t.pc == 0x200 && t.priv == 3 && t.getCsr 0x300 == 0x88) = true := by decide

/-- 95_test_vectors 45.10: sret (SPP = 0). -/
theorem test_sret_45_10 :
    runs ((((boot .rv32).setCsr 0x100 2).setCsr 0x141 0x44).setCsr 0x300 0x1800) 0x10200073
      (fun t => t.pc == 0x44 && t.priv == 0 && t.getCsr 0x100 == 0x20 && t.getCsr 0x300 == 0x1800) = true := by decide

/-- 95_test_vectors 45.13: fence rw, rw. -/
theorem test_fence_45_13 :
    runs ({ boot .rv32 with pc := 0x10 }) 0x330000f
      (fun t => t.pc == 0x14) = true := by decide

/-- 95_test_vectors 45.17: csrrw x5, mscratch, x5 (swap). -/
theorem test_csrrw_45_17 :
    runs (((boot .rv32).setX 5 0x11).setCsr 0x340 0x22) 0x340292f3
      (fun t => t.getX 5 == 0x22 && t.getCsr 0x340 == 0x11) = true := by decide

/-- 95_test_vectors 45.18: csrrw x0, mtvec, x1. -/
theorem test_csrrw_45_18 :
    runs ((boot .rv64).setX 1 0xffffffff80001000) 0x30509073
      (fun t => t.getCsr 0x305 == 0x80001000) = true := by decide

/-- 95_test_vectors 45.20: csrrc x3, 0xFFF, x1. -/
theorem test_csrrc_45_20 :
    runs (((boot .rv32).setX 1 0xf).setCsr 0xfff 0xff) 0xfff0b1f3
      (fun t => t.getX 3 == 0xff && t.getCsr 0xfff == 0xf0) = true := by decide

/-- 95_test_vectors 45.21: csrrwi x3, 0x001, 31. -/
theorem test_csrrwi_45_21 :
    runs ((boot .rv32).setCsr 1 5) 0x1fd1f3
      (fun t => t.getX 3 == 5 && t.getCsr 0x1 == 0x1f) = true := by decide

/-- 95_test_vectors 46.1: lr.w x3, (x1). -/
theorem test_lr_w_46_1 :
    runs (put ((boot .rv64).setX 1 0x100) 0x100 4 0x80000001) 0x1000a1af
      (fun t => t.getX 3 == 0xffffffff80000001 && t.resvAddr == 0x100 && t.resvValid == true) = true := by decide

/-- 95_test_vectors 46.2: sc.w x3, x2, (x1) (reservation at 0x104). -/
theorem test_sc_w_46_2 :
    runs ({ put (((boot .rv32).setX 1 0x100).setX 2 9) 0x100 4 0x80000001 with resvAddr := 0x104, resvValid := true }) 0x1820a1af
      (fun t => t.getX 3 == 1 && t.resvAddr == 0x104 && t.resvValid == false && loadBytes t.mem 0x100 4 == 0x80000001) = true := by decide

/-- 95_test_vectors 46.3: sc.w x3, x2, (x1) (reservation matches). -/
theorem test_sc_w_46_3 :
    runs ({ ((boot .rv32).setX 1 0x100).setX 2 9 with resvAddr := 0x100, resvValid := true }) 0x1820a1af
      (fun t => t.getX 3 == 0 && t.resvAddr == 0x100 && t.resvValid == false && loadBytes t.mem 0x100 4 == 9) = true := by decide

/-- 95_test_vectors 46.5: sc.d x3, x2, (x1). -/
theorem test_sc_d_46_5 :
    runs ({ ((boot .rv64).setX 1 0x100).setX 2 0x1122334455667788 with resvAddr := 0x100, resvValid := true }) 0x1820b1af
      (fun t => t.getX 3 == 0 && t.resvAddr == 0x100 && t.resvValid == false && loadBytes t.mem 0x100 8 == 0x1122334455667788) = true := by decide

/-- 95_test_vectors 47.28: fsqrt.s f3, f1. -/
theorem test_fsqrt_s_47_28 :
    runs ((boot .rv32).setS 1 0x40000000) 0x580081d3
      (fun t => t.getS 3 == 0x3fb504f3) = true := by decide

/-- 95_test_vectors 47.31: fsgnj.s f3, f1, f2. -/
theorem test_fsgnj_s_47_31 :
    runs (((boot .rv32).setS 1 0x3f800000).setS 2 0xffc00000) 0x202081d3
      (fun t => t.getS 3 == 0xbf800000) = true := by decide

/-- 95_test_vectors 47.32: fsgnjn.s f3, f1, f1 (fneg). -/
theorem test_fsgnjn_s_47_32 :
    runs ((boot .rv32).setS 1 0x7f800001) 0x201091d3
      (fun t => t.getS 3 == 0xff800001) = true := by decide

/-- 95_test_vectors 47.35: fmin.s f3, f1, f2 (both NaN). -/
theorem test_fmin_s_47_35 :
    runs (((boot .rv32).setS 1 0xffc00000).setS 2 0x7f800001) 0x282081d3
      (fun t => t.getS 3 == 0x7fc00000) = true := by decide

/-- 95_test_vectors 47.36: fmin.s f3, f1, f2 (+0, -0). -/
theorem test_fmin_s_47_36 :
    runs (((boot .rv32).setS 1 0).setS 2 0x80000000) 0x282081d3
      (fun t => t.getS 3 == 0x80000000) = true := by decide

/-- 95_test_vectors 47.41: fcvt.w.s x3, f1 (RMM tie). -/
theorem test_fcvt_w_s_47_41 :
    runs ((boot .rv32).setS 1 0xc0200000) 0xc000c1d3
      (fun t => t.getX 3 == 0xfffffffd) = true := by decide

/-- 95_test_vectors 47.48: fcvt.wu.s x3, f1 (3e9, XLEN 64). -/
theorem test_fcvt_wu_s_47_48 :
    runs ((boot .rv64).setS 1 0x4f32d05e) 0xc01091d3
      (fun t => t.getX 3 == 0xffffffffb2d05e00) = true := by decide

/-- 95_test_vectors 47.52: flt.s x3, f1, f2. -/
theorem test_flt_s_47_52 :
    runs (((boot .rv32).setS 1 0xff800000).setS 2 0xbf800000) 0xa02091d3
      (fun t => t.getX 3 == 1) = true := by decide

/-- 95_test_vectors 47.63: fclass.s x3, f1 (NaN 0xFFC00000 (sign 1)). -/
theorem test_fclass_s_47_63 :
    runs ((boot .rv32).setS 1 0xffc00000) 0xe00091d3
      (fun t => t.getX 3 == 0x100) = true := by decide

/-- 95_test_vectors 47.68: fcvt.s.w f3, x1 (16777217, RUP). -/
theorem test_fcvt_s_w_47_68 :
    runs ((boot .rv32).setX 1 0x1000001) 0xd000b1d3
      (fun t => t.getS 3 == 0x4b800001) = true := by decide

/-- 95_test_vectors 47.70: fcvt.s.wu f3, x1. -/
theorem test_fcvt_s_wu_47_70 :
    runs ((boot .rv32).setX 1 0xffffffff) 0xd01081d3
      (fun t => t.getS 3 == 0x4f800000) = true := by decide

/-- 95_test_vectors 48.2: fsd f2, 0(x1). -/
theorem test_fsd_48_2 :
    runs (((boot .rv32).setX 1 0x100).setD 2 0x123456789abcdef) 0x20b027
      (fun t => loadBytes t.mem 0x100 8 == 0x123456789abcdef) = true := by decide

/-- 95_test_vectors 48.3: fmadd.d f4, f1, f2, f3. -/
theorem test_fmadd_d_48_3 :
    runs ((((boot .rv32).setD 1 0x4000000000000000).setD 2 0x4008000000000000).setD 3 0x3ff0000000000000) 0x1a208243
      (fun t => t.getD 4 == 0x401c000000000000) = true := by decide

/-- 95_test_vectors 48.7: fadd.d f3, f1, f2. -/
theorem test_fadd_d_48_7 :
    runs (((boot .rv32).setD 1 0x3fb999999999999a).setD 2 0x3fc999999999999a) 0x22081d3
      (fun t => t.getD 3 == 0x3fd3333333333334) = true := by decide

/-- 95_test_vectors 48.10: fdiv.d f3, f1, f2 (1/3). -/
theorem test_fdiv_d_48_10 :
    runs (((boot .rv32).setD 1 0x3ff0000000000000).setD 2 0x4008000000000000) 0x1a2081d3
      (fun t => t.getD 3 == 0x3fd5555555555555) = true := by decide

/-- 95_test_vectors 48.12: fsqrt.d f3, f1. -/
theorem test_fsqrt_d_48_12 :
    runs ((boot .rv32).setD 1 0x4000000000000000) 0x5a0081d3
      (fun t => t.getD 3 == 0x3ff6a09e667f3bcd) = true := by decide

/-- 95_test_vectors 48.20: fcvt.s.d f3, f1 (overflow, RTZ). -/
theorem test_fcvt_s_d_48_20 :
    runs ((boot .rv32).setD 1 0x7fefffffffffffff) 0x401091d3
      (fun t => t.getS 3 == 0x7f7fffff) = true := by decide

/-- 95_test_vectors 48.22: fcvt.d.s f3, f1 (subnormal). -/
theorem test_fcvt_d_s_48_22 :
    runs ((boot .rv32).setS 1 1) 0x420081d3
      (fun t => t.getD 3 == 0x36a0000000000000) = true := by decide

/-- 95_test_vectors 48.36: fcvt.lu.d x3, f1. -/
theorem test_fcvt_lu_d_48_36 :
    runs ((boot .rv64).setD 1 0x43e0000000000000) 0xc23081d3
      (fun t => t.getX 3 == 0x8000000000000000) = true := by decide

/-- 95_test_vectors 48.39: fcvt.d.l f3, x1 (2^63 - 1, RTZ). -/
theorem test_fcvt_d_l_48_39 :
    runs ((boot .rv64).setX 1 0x7fffffffffffffff) 0xd22091d3
      (fun t => t.getD 3 == 0x43dfffffffffffff) = true := by decide

/-- 95_test_vectors 49.3: srliw x3, x1, 0. -/
theorem test_srliw_49_3 :
    runs ((boot .rv64).setX 1 0xffffffff) 0xd19b
      (fun t => t.getX 3 == 0xffffffffffffffff) = true := by decide

/-- 95_test_vectors 49.8: srlw x3, x1, x2. -/
theorem test_srlw_49_8 :
    runs (((boot .rv64).setX 1 0xffffffff80000000).setX 2 0x20) 0x20d1bb
      (fun t => t.getX 3 == 0xffffffff80000000) = true := by decide

/-- 95_test_vectors 49.12: divw x3, x1, x2. -/
theorem test_divw_49_12 :
    runs (((boot .rv64).setX 1 5).setX 2 0x100000000) 0x220c1bb
      (fun t => t.getX 3 == 0xffffffffffffffff) = true := by decide

/-- 95_test_vectors 49.14: remw x3, x1, x2. -/
theorem test_remw_49_14 :
    runs (((boot .rv64).setX 1 0x80000000).setX 2 0xffffffff) 0x220e1bb
      (fun t => t.getX 3 == 0) = true := by decide

/-- 95_test_vectors 20.4: address wraps: lw 4(x1) with x1 = 0xFFFFFFFC. -/
theorem test_address_20_4 :
    runs (put ((boot .rv32).setX 1 0xfffffffc) 0 4 0xaabbccdd) 0x40a183
      (fun t => t.getX 3 == 0xaabbccdd) = true := by decide

/-- 95_test_vectors 60.4: mtvec with bits 1:0 set. -/
theorem test_mtvec_60_4 :
    runs ({ (boot .rv32).setCsr 0x305 0x203 with pc := 0x10 }) 0x100073
      (fun t => t.pc == 0x203) = true := by decide

/-- 95_test_vectors 60.6: Unknown (0xFFFFFFFF) under trap from S, TRAP_CSRS = by_level. -/
theorem test_unknown_60_6 :
    runs ({ withCfg (((boot .rv32).setCsr 0x305 0x400).setCsr 0x341 0x77) fun c => { c with trapCsrs := .byLevel, unknownPolicy := .trap } with pc := 0x30, priv := 1 }) 0xffffffff
      (fun t => t.pc == 0x400 && t.priv == 3 && t.getCsr 0x141 == 0x30 && t.getCsr 0x142 == 2 && t.getCsr 0x341 == 0x77 && t.getCsr 0x342 == 0) = true := by decide

/-- 95_test_vectors 60.7: Unknown under skip. -/
theorem test_unknown_60_7 :
    runs ({ boot .rv32 with pc := 0x30 }) 0xffffffff
      (fun t => t.pc == 0x34) = true := by decide

/-- 95_test_vectors 60.8: sw out of range (trap). -/
theorem test_sw_60_8 :
    runs ({ withCfg (((boot .rv32).setX 1 0x100000).setCsr 0x305 0x400) fun c => { c with oobPolicy := .trap } with pc := 0x30 }) 0x20a023
      (fun t => t.pc == 0x400 && t.getCsr 0x341 == 0x30 && t.getCsr 0x342 == 7) = true := by decide

/-- 95_test_vectors 40.6: c.jal -2 (link is pc + 2). -/
theorem test_c_jal_40_6 :
    runs ({ boot .rv32 with pc := 0x100 }) 0x3ffd
      (fun t => t.getX 1 == 0x102 && t.pc == 0xfe) = true := by decide

/-- 95_test_vectors 40.8: c.jalr x5 (link is pc + 2). -/
theorem test_c_jalr_40_8 :
    runs ({ (boot .rv32).setX 5 0x301 with pc := 0x100 }) 0x9282
      (fun t => t.getX 1 == 0x102 && t.pc == 0x300) = true := by decide

/-- 95_test_vectors 40.11: c.beqz x8, -256 (not taken). -/
theorem test_c_beqz_40_11 :
    runs ({ (boot .rv32).setX 8 1 with pc := 0x200 }) 0xd001
      (fun t => t.pc == 0x202) = true := by decide

/-- 95_test_vectors 40.15: c.ldsp x1, 504(sp). -/
theorem test_c_ldsp_40_15 :
    runs (put ((boot .rv64).setX 2 0x200) 0x3f8 8 0x1122334455667788) 0x70fe
      (fun t => t.getX 1 == 0x1122334455667788) = true := by decide

/-- 95_test_vectors 40.16: c.fsdsp f1, 504(sp). -/
theorem test_c_fsdsp_40_16 :
    runs (((boot .rv32).setX 2 0x200).setD 1 0x400921fb54442d18) 0xbf86
      (fun t => loadBytes t.mem 0x3f8 8 == 0x400921fb54442d18) = true := by decide

/-- 95_test_vectors 40.20: c.srai x9, 63. -/
theorem test_c_srai_40_20 :
    runs ((boot .rv64).setX 9 0x8000000000000000) 0x94fd
      (fun t => t.getX 9 == 0xffffffffffffffff) = true := by decide

/-- 95_test_vectors 40.23: c.ebreak. -/
theorem test_c_ebreak_40_23 :
    runs ({ (boot .rv32).setCsr 0x305 0x400 with pc := 0x40 }) 0x9002
      (fun t => t.pc == 0x400 && t.getCsr 0x341 == 0x40 && t.getCsr 0x342 == 3) = true := by decide

/-- 95_test_vectors 40.24: 0x0000 (reserved, skip). -/
theorem test_0x0000_40_24 :
    runs ({ boot .rv32 with pc := 0x40 }) 0x0
      (fun t => t.pc == 0x42) = true := by decide

/-! ## Witnesses

For every statement of Obligations.lean that has hypotheses, a concrete state and operands that meet
them together, at a boundary value of each clause. -/

/-- A state at XLEN 64 with the stream given. -/
def fed (l : List IWord) : State := { boot .rv64 with stream := l }

/-- A state that fetches from memory of `size` bytes, the bytes of `w` at 0. -/
def fromMemory (size n w : Nat) (oob : OobPolicy) : State :=
  put (withCfg (boot .rv64) fun c =>
    { c with memSize := size, fetch := .memory, oobPolicy := oob, endOfRun := .fuel 1 }) 0 n w

/-- A well-shaped state that denies an access out of range, with x1 at the end of memory. -/
def denying : State :=
  (withCfg (boot .rv64) fun c => { c with oobPolicy := .trap }).setX 1 0x100000

/-- A well-shaped state with a reservation at the address in x1. -/
def reserved : State := { (boot .rv64).setX 1 0x100 with resvAddr := 0x100, resvValid := true }

theorem fetched_state_wf (s : State) (h : s.Wf) (l : List IWord) : State.Wf { s with stream := l } :=
  ⟨h.x, h.x0, h.pc, h.resvAddr, h.mem, h.csrs, h.live⟩

/-! ### Encoding and decoding -/

/-- EncodedInstructionsDecodeBack: the greatest shift amounts, an XLEN of each kind of instruction. -/
theorem witness_EncodedInstructionsDecodeBack :
    Instr.wf .rv64 (.slli 31 31 63) = true ∧ Instr.wf .rv32 (.slli 31 31 31) = true ∧
    Instr.wf .rv32 (.cJal 0x7FF) = true ∧ Instr.wf .rv64 (.cLd 7 7 31) = true ∧
    Instr.wf .rv32 (.fenceSystem 0xFFF 0 0) = true := by decide

/-- DecodedInstructionsEncodeBack: a word of each length, the upper half of a short one in use. -/
theorem witness_DecodedInstructionsEncodeBack :
    decode .rv64 0xFFFFFFE3#32 = .ok (.bgeu 31 31 0xFFF) ∧
    decode .rv64 0xFFFF0001#32 = .ok (.cNop 0) := by decide

/-- CompressedWordsDecodeLikeTheirExpansion: a word that decodes and a word that does not. -/
theorem witness_CompressedWordsDecodeLikeTheirExpansion :
    (0x12FD#32).extractLsb' 0 2 ≠ 3#2 ∧ decode .rv32 0x12FD#32 = .ok (.cAddi 5 0x3F) ∧
    (0#32).extractLsb' 0 2 ≠ 3#2 ∧ decode .rv32 0#32 = .error (.reservedCompressed 0) := by decide

/-- ReservedCompressedWordsAreExactlyTheListed: a word of each line of 40_compressed R121's list, and a
neighbour of it that is no reserved word. -/
theorem witness_ReservedCompressedWordsAreExactlyTheListed :
    decode .rv64 0x0004#32 = .error (.reservedCompressed 0x0004) ∧
    decode .rv64 0x0024#32 = .ok (.cAddi4spn 1 2) ∧
    decode .rv64 0x8000#32 = .error (.reservedCompressed 0x8000) ∧
    decode .rv64 0x2001#32 = .error (.reservedCompressed 0x2001) ∧
    decode .rv32 0x2001#32 = .ok (.cJal 0) ∧
    decode .rv64 0x6101#32 = .error (.reservedCompressed 0x6101) ∧
    decode .rv64 0x6001#32 = .error (.reservedCompressed 0x6001) ∧
    decode .rv32 0x9001#32 = .error (.reservedCompressed 0x9001) ∧
    decode .rv64 0x9001#32 = .ok (.cSrli 0 32) ∧
    decode .rv64 0x9C41#32 = .error (.reservedCompressed 0x9C41) ∧
    decode .rv32 0x9C01#32 = .error (.reservedCompressed 0x9C01) ∧
    decode .rv64 0x9C01#32 = .ok (.cSubw 0 0) ∧
    decode .rv32 0x1002#32 = .error (.reservedCompressed 0x1002) ∧
    decode .rv64 0x4002#32 = .error (.reservedCompressed 0x4002) ∧
    decode .rv64 0x6002#32 = .error (.reservedCompressed 0x6002) ∧
    decode .rv32 0x6002#32 = .ok (.cFlwsp 0 0) ∧
    decode .rv64 0x8002#32 = .error (.reservedCompressed 0x8002) := by decide

/-- UnlistedOpcodesAreUnknown: the custom opcode 0x0B, and OP-32 at XLEN 32. -/
theorem witness_UnlistedOpcodesAreUnknown :
    (0x0000000B#32).extractLsb' 0 2 = 3#2 ∧ (0x0000000B#32).extractLsb' 0 7 ∉ listedOpcodes .rv64 ∧
    (0x0000003B#32).extractLsb' 0 2 = 3#2 ∧
    (0x0000003B#32).extractLsb' 0 7 ∉ listedOpcodes .rv32 := by decide

/-- ReservedRoundingModesAreUnknown: FADD.S with rm 5 and FMADD.S with rm 6. -/
theorem witness_ReservedRoundingModesAreUnknown :
    ((0x00005053#32).extractLsb' 0 7 = 0x53#7 ∧ (0x00005053#32).extractLsb' 25 7 ∈ roundingFunct7 ∧
      (0x00005053#32).extractLsb' 12 3 = 5#3) ∧
    ((0x00006043#32).extractLsb' 0 7 ∈ [0x43#7, 0x47#7, 0x4B#7, 0x4F#7] ∧
      (0x00006043#32).extractLsb' 12 3 = 6#3) := by decide

/-! ### A step -/

/-- StepRunsTheDecodedInstruction, first clause. -/
theorem witness_StepRunsTheDecodedInstruction_stream :
    let s := fed [0x00500093]
    s.runEnded = false ∧ s.cfg.fetch = .stream ∧ s.stream = 0x00500093 :: [] ∧
      decode s.cfg.xlen 0x00500093 = .ok (.addi 1 0 5) := by decide

/-- StepRunsTheDecodedInstruction, second clause: a 32-bit word that ends at the end of memory. -/
theorem witness_StepRunsTheDecodedInstruction_memory :
    let s := fromMemory 4 4 0x00500093 .trap
    s.runEnded = false ∧ s.cfg.fetch = .memory ∧ Allowed s s.pc.toNat 2 ∧
      Allowed s (after s 2).toNat 2 ∧
      decode s.cfg.xlen (fetchedWord s) = .ok (.addi 1 0 5) :=
  ⟨by decide, by decide, Or.inl (by decide), Or.inl (by decide), by decide⟩

/-- The same with a 16-bit word that ends at the end of memory. -/
theorem witness_StepRunsTheDecodedInstruction_short :
    let s := fromMemory 2 2 0x0001 .trap
    s.runEnded = false ∧ s.cfg.fetch = .memory ∧ Allowed s s.pc.toNat 2 ∧
      (loaded s s.pc.toNat 2).extractLsb' 0 2 ≠ 3#2 ∧
      decode s.cfg.xlen (fetchedWord s) = .ok (.cNop 0) :=
  ⟨by decide, by decide, Or.inl (by decide), by decide, by decide⟩

/-- StepOnAnUnknownWord: both policies, both lengths. -/
theorem witness_StepOnAnUnknownWord :
    (fed [0xFFFFFFFF]).runEnded = false ∧ (fed [0xFFFFFFFF]).cfg.fetch = .stream ∧
    (fed [0xFFFFFFFF]).stream = 0xFFFFFFFF :: [] ∧
    decode (fed [0xFFFFFFFF]).cfg.xlen 0xFFFFFFFF = .error (.unknownWord 0xFFFFFFFF) ∧
    decode (fed [0]).cfg.xlen 0 = .error (.reservedCompressed 0) ∧
    (fed [0xFFFFFFFF]).cfg.unknownPolicy = .skip ∧
    (withCfg (fed [0]) fun c => { c with unknownPolicy := .trap }).cfg.unknownPolicy = .trap ∧
    (withCfg (fed [0]) fun c => { c with unknownPolicy := .trap }).runEnded = false := by decide

/-- StepOnAnUnknownWord, second clause: a word of each length that ends at the end of memory. -/
theorem witness_StepOnAnUnknownWord_memory :
    (let s := fromMemory 4 4 0xFFFFFFFF .trap
     s.runEnded = false ∧ s.cfg.fetch = .memory ∧ Allowed s s.pc.toNat 2 ∧
       Allowed s (after s 2).toNat 2 ∧
       decode s.cfg.xlen (fetchedWord s) = .error (.unknownWord 0xFFFFFFFF)) ∧
    (let s := fromMemory 2 2 0 .trap
     s.runEnded = false ∧ s.cfg.fetch = .memory ∧ Allowed s s.pc.toNat 2 ∧
       (loaded s s.pc.toNat 2).extractLsb' 0 2 ≠ 3#2 ∧
       decode s.cfg.xlen (fetchedWord s) = .error (.reservedCompressed 0)) :=
  ⟨⟨by decide, by decide, Or.inl (by decide), Or.inl (by decide), by decide⟩,
    by decide, by decide, Or.inl (by decide), by decide, by decide⟩

/-- DeniedFetchTraps: the first half denied, and the second alone. -/
theorem witness_DeniedFetchTraps :
    (let s := fromMemory 1 1 0x13 .trap
     s.runEnded = false ∧ s.cfg.fetch = .memory ∧ Denied s s.pc.toNat 2) ∧
    (let s := fromMemory 2 2 0x0093 .trap
     s.runEnded = false ∧ s.cfg.fetch = .memory ∧ Allowed s s.pc.toNat 2 ∧
       (loaded s s.pc.toNat 2).extractLsb' 0 2 = 3#2 ∧ Denied s (after s 2).toNat 2) :=
  ⟨⟨by decide, by decide, by decide, by decide⟩, by decide, by decide, Or.inl (by decide), by decide,
    by decide, by decide⟩

/-- TheRunEndsWhereEndOfRunSays: each END_OF_RUN, ended and not. -/
theorem witness_TheRunEndsWhereEndOfRunSays :
    ((fed []).cfg.endOfRun = .streamEnd ∧ (fed []).cfg.fetch = .stream ∧ (fed []).stream = []) ∧
    (let s := withCfg (fed [0x13]) fun c => { c with endOfRun := .haltPc 4 }
     s.Wf ∧ s.cfg.endOfRun = .haltPc 4 ∧ s.CanStep) ∧
    (let s := withCfg (fed [0x13]) fun c => { c with endOfRun := .fuel 1 }
     s.cfg.endOfRun = .fuel 1 ∧ ¬1 ≤ s.steps ∧ s.CanStep) :=
  ⟨by decide, ⟨⟨by unfold fitsXlen; decide, rfl, rfl, rfl, rfl, rfl, by decide⟩, rfl, by decide, by decide⟩,
    rfl, by decide, by decide, by decide⟩

/-! ### Invariants and rules of the whole machine -/

/-- The state after reset has the shape of a state; so do its uses below. -/
theorem boot_wf (xl : XLen) : (boot xl).Wf := by
  cases xl <;> exact ⟨by unfold fitsXlen; decide, rfl, rfl, rfl, rfl, rfl, by decide⟩

/-- StepsKeepTheShapeOfTheState: a step that writes a register, one that writes memory. -/
theorem witness_StepsKeepTheShapeOfTheState :
    (∃ t, (fed [0x00500093]).Wf ∧ step (fed [0x00500093]) = .next t ∧ t.getX 1 = 5) ∧
    (∃ t, (fed [0xFE000FA3]).Wf ∧ step (fed [0xFE000FA3]) = .next t) :=
  ⟨⟨_, fetched_state_wf _ (boot_wf _) _, rfl, by decide⟩,
    ⟨_, fetched_state_wf _ (boot_wf _) _, rfl⟩⟩

/-- StepsKeepThePcEven: a taken branch, a jump to an odd sum, and a trap. -/
theorem witness_StepsKeepThePcEven :
    (fed [0x00000463]).PcEven ∧ (fed [0x00000463]).VectorsEven ∧
    (∃ t, step (fed [0x00000463]) = .next t ∧ t.pc = 8) ∧
    (∃ t, step (fed [0x001000E7]) = .next t ∧ t.pc = 0) ∧
    (∃ t, step (fed [0x00000073]) = .next t ∧ t.pc = 0) :=
  ⟨rfl, ⟨rfl, rfl, rfl⟩, ⟨_, rfl, by decide⟩, ⟨_, rfl, by decide⟩, ⟨_, rfl, by decide⟩⟩

/-- StepsKeepTheParameters: both kinds of fetch. -/
theorem witness_StepsKeepTheParameters :
    (∃ t, step (fed [0x13, 0x13]) = .next t ∧ t.stream = [0x13]) ∧
    (∃ t, step (fromMemory 4 4 0x13 .trap) = .next t ∧ t.pc = 4) :=
  ⟨⟨_, rfl, by decide⟩, ⟨_, rfl, by decide⟩⟩

/-- OnlyLrAndScChangeTheReservation: a store to the reserved address and a trap, a reservation held. -/
theorem witness_OnlyLrAndScChangeTheReservation :
    (∃ t, writesReservation (.sw 1 2 0) = false ∧ exec (.sw 1 2 0) reserved = .next t ∧
      t.resvValid = true) ∧
    (∃ t, writesReservation (.ecall 0 0) = false ∧ exec (.ecall 0 0) reserved = .next t ∧
      t.resvValid = true) :=
  ⟨⟨_, rfl, rfl, rfl⟩, ⟨_, rfl, rfl, rfl⟩⟩

/-- PrivilegeTransitions: MRET and SRET to each level, a trap, and neither. -/
theorem witness_PrivilegeTransitions :
    (∃ t, exec (.mret 0 0) ((boot .rv64).setCsr 0x300 0x1000) = .next t ∧ t.priv = 2) ∧
    (∃ t, exec (.sret 0 0) ((boot .rv64).setCsr 0x100 0x100) = .next t ∧ t.priv = 1) ∧
    (∃ t, exec (.sret 0 0) (boot .rv64) = .next t ∧ t.priv = 0) ∧
    (∃ t, exec (.ecall 0 0) { boot .rv64 with priv := 0 } = .next t ∧ t.priv = 3) ∧
    (∃ t, exec (.wfi 0 0) { boot .rv64 with priv := 0 } = .next t ∧ t.priv = 0) :=
  ⟨⟨_, rfl, rfl⟩, ⟨_, rfl, rfl⟩, ⟨_, rfl, rfl⟩, ⟨_, rfl, rfl⟩, ⟨_, rfl, rfl⟩⟩

/-- PrivilegeGatesNothing: MRET and a CSR write from User. -/
theorem witness_PrivilegeGatesNothing :
    (∃ t, exec (.mret 0 0) { boot .rv64 with priv := 0 } = .next t) ∧
    (∃ t, exec (.csrrwi 0 0x305 8) { boot .rv64 with priv := 0 } = .next t ∧ t.mtvec = 8) :=
  ⟨⟨_, rfl⟩, ⟨_, rfl, rfl⟩⟩

/-- CsrsChangeOnlyByTheListedEvents: SRET, MRET, and a trap to each pair of CSRs. -/
theorem witness_CsrsChangeOnlyByTheListedEvents :
    (∃ t, isCsrInstr (.sret 0 0) = false ∧ exec (.sret 0 0) (boot .rv64) = .next t ∧
      t.sstatus = 0x20) ∧
    (∃ t, isCsrInstr (.mret 0 0) = false ∧ exec (.mret 0 0) (boot .rv64) = .next t ∧
      t.mstatus = 0x80) ∧
    (∃ t, isCsrInstr (.ebreak 0 0) = false ∧ exec (.ebreak 0 0) (boot .rv64) = .next t ∧
      t.mcause = 3 ∧ t.mstatus = 0x1800) ∧
    (∃ t, exec (.ebreak 0 0) { withCfg (boot .rv64) fun c => { c with trapCsrs := .byLevel } with
      priv := 1 } = .next t ∧ t.scause = 3 ∧ t.mcause = 0) :=
  ⟨⟨_, rfl, rfl, rfl⟩, ⟨_, rfl, rfl, rfl⟩, ⟨_, rfl, rfl, rfl, rfl⟩, ⟨_, rfl, rfl, rfl⟩⟩

/-- OnlyStoresChangeMemory: a load. -/
theorem witness_OnlyStoresChangeMemory :
    ∃ t, writesMemory (.lw 1 0 0) = false ∧ exec (.lw 1 0 0) (boot .rv64) = .next t :=
  ⟨_, rfl, rfl⟩

/-- FloatBanksAreIndependent: a write of each bank, and of neither. -/
theorem witness_FloatBanksAreIndependent :
    (∃ t, writesDouble (.fmvWX 1 0) = false ∧ exec (.fmvWX 1 0) (boot .rv64) = .next t) ∧
    (∃ t, writesSingle (.fmvDX 1 0) = false ∧ exec (.fmvDX 1 0) (boot .rv64) = .next t) ∧
    (∃ t, writesSingle (.add 1 0 0) = false ∧ writesDouble (.add 1 0 0) = false ∧
      exec (.add 1 0 0) (boot .rv64) = .next t) :=
  ⟨⟨_, rfl, rfl⟩, ⟨_, rfl, rfl⟩, ⟨_, rfl, rfl, rfl⟩⟩

/-! ### Memory, CSRs and traps -/

/-- MemoryAccesses: the last bytes of memory, the first address that is out of range under each
policy. -/
theorem witness_MemoryAccesses :
    (boot .rv64).Wf ∧ Allowed (boot .rv64) 0xFFFF8 8 ∧ 0xFFFF8 + 8 ≤ (boot .rv64).cfg.memSize ∧
    Allowed (boot .rv64) 0xFFFF9 8 ∧ Denied denying 0xFFFF9 8 :=
  ⟨boot_wf _, Or.inl (by decide), by decide, Or.inr rfl, by decide, rfl⟩

/-- TrapEntry: both values of each parameter, at Supervisor and elsewhere. -/
theorem witness_TrapEntry :
    (let s := { withCfg (boot .rv64) fun c => { c with trapCsrs := .byLevel, trapStack := .none } with
      priv := 1 }
     (s.cfg.trapCsrs = .byLevel ∧ s.priv = 1) ∧ s.cfg.trapStack = .none) ∧
    (¬((boot .rv64).cfg.trapCsrs = .byLevel ∧ (boot .rv64).priv = 1) ∧
      (boot .rv64).cfg.trapStack = .standard) := by decide

/-- CsrInstructions, and the statements on memory and atomics that ask for a well-shaped state: x1 at
an address whose access is allowed, or denied. -/
theorem witness_well_shaped :
    (boot .rv32).Wf ∧ (boot .rv64).Wf ∧ denying.Wf ∧ reserved.Wf :=
  ⟨boot_wf _, boot_wf _, ⟨by unfold fitsXlen; decide, rfl, rfl, rfl, rfl, rfl, by decide⟩,
    ⟨by unfold fitsXlen; decide, rfl, rfl, rfl, rfl, rfl, by decide⟩⟩

/-- IntegerLoads, IntegerStores, FloatLoadsAndStores, LoadReserved, AtomicUpdates: well-shaped states, and
the three cases of an access, in range, out of range and read as 0, denied. -/
theorem witness_accesses :
    (boot .rv64).Wf ∧ denying.Wf ∧ (boot .rv64).cfg.xlen = .rv64 ∧
    Allowed (boot .rv64) (ea (boot .rv64) 0 0x7FF) 8 ∧
    Allowed (boot .rv64) (ea (boot .rv64) 0 0xFFF) 1 ∧
    ¬ea (boot .rv64) 0 0xFFF + 1 ≤ (boot .rv64).cfg.memSize ∧
    Denied denying (ea denying 1 0) 1 ∧ Denied denying (xv denying 1).toNat 4 ∧
    Denied denying (xv denying 1).toNat 8 ∧ denying.cfg.xlen = .rv64 :=
  ⟨boot_wf _, witness_well_shaped.2.2.1, rfl, Or.inl (by decide), Or.inr rfl, by decide,
    ⟨by decide, rfl⟩, ⟨by decide, rfl⟩, ⟨by decide, rfl⟩, rfl⟩

/-- StoreConditional: the reservation held and allowed, held and denied, held at another address, and
not held. -/
theorem witness_StoreConditional :
    (reserved.Wf ∧ reserved.resvValid = true ∧ reserved.resvAddr = reserved.getX 1 ∧
      Allowed reserved (xv reserved 1).toNat 8) ∧
    (let s := { denying with resvAddr := 0x100000, resvValid := true }
     s.Wf ∧ (s.resvValid = true ∧ s.resvAddr = s.getX 1) ∧ Denied s (xv s 1).toNat 4) ∧
    ¬(reserved.resvValid = true ∧ reserved.resvAddr = reserved.getX 2) ∧
    ¬((boot .rv64).resvValid = true ∧ (boot .rv64).resvAddr = (boot .rv64).getX 1) :=
  ⟨⟨witness_well_shaped.2.2.2, rfl, by decide, Or.inl (by decide)⟩,
    ⟨⟨by unfold fitsXlen; decide, rfl, rfl, rfl, rfl, rfl, by decide⟩, ⟨rfl, by decide⟩, by decide, rfl⟩,
    by decide, by decide⟩

/-- ReservationLaws: a store to the reserved address between LR and SC. -/
theorem witness_ReservationLaws :
    ∃ s1 s2, reserved.Wf ∧ exec (.lrW 2 1 0 0 0) reserved = .next s1 ∧ Allowed reserved (xv reserved 1).toNat 4 ∧
      s1.getX 1 = reserved.getX 1 ∧ writesReservation (.sw 1 2 0) = false ∧
      exec (.sw 1 2 0) s1 = .next s2 ∧ s2.getX 1 = s1.getX 1 :=
  ⟨_, _, witness_well_shaped.2.2.2, rfl, Or.inl (by decide), by decide, rfl, rfl, by decide⟩

/-! ### Arithmetic -/

/-- AluImmediateResults: the greatest shift amounts. -/
theorem witness_AluImmediateResults :
    (31#6).toNat < Xlen (boot .rv32) ∧ (63#6).toNat < Xlen (boot .rv64) := by decide

/-- DivisionResults: the operands of the four rows of the corner-case table at both XLENs. -/
theorem witness_DivisionResults :
    (let s := (boot .rv32).setX 1 0x80000000 |>.setX 2 0xFFFFFFFF |>.setX 3 1 |>.setX 4 7
        |>.setX 5 0xFFFFFFFE
     xv s 0 = 0 ∧ xv s 1 = BitVec.intMin 32 ∧ xv s 2 = BitVec.allOnes 32 ∧ xv s 3 = 1 ∧ xv s 4 = 7 ∧
       xv s 5 = BitVec.ofInt 32 (-2)) ∧
    (let s := (boot .rv64).setX 1 0x8000000000000000 |>.setX 2 0xFFFFFFFFFFFFFFFF
     xv s 1 = BitVec.intMin 64 ∧ xv s 2 = BitVec.allOnes 64) :=
  ⟨⟨by decide, rfl, rfl, by decide, by decide, rfl⟩, rfl, rfl⟩

/-- The statements with clauses for one XLEN: both XLENs occur. -/
theorem witness_xlen : (boot .rv64).cfg.xlen = .rv64 ∧ (boot .rv32).cfg.xlen = .rv32 := ⟨rfl, rfl⟩

/-- CompressedLoadsAndStores: the greatest offsets in range, an access denied. -/
theorem witness_CompressedLoadsAndStores :
    Allowed (boot .rv64) (ea (boot .rv64) 2 (0#3 ++ 63#6 ++ 0#3)) 8 ∧
    Allowed (boot .rv32) (ea (boot .rv32) 2 (0#4 ++ 63#6 ++ 0#2)) 4 ∧
    Denied (denying.setX 2 0x100000) (ea (denying.setX 2 0x100000) 2 0) 4 :=
  ⟨Or.inl (by decide), Or.inl (by decide), by decide, rfl⟩

/-! ### Floating point -/

/-- NanResultsAreExactlyTheListed and ClassMask: the formats of both precisions. -/
theorem witness_IsFormat : IsFormat 32 f32 ∧ IsFormat 64 f64 := ⟨Or.inl ⟨rfl, rfl⟩, Or.inr ⟨rfl, rfl⟩⟩

theorem val_one : val f32 0x3F800000#32 = 1 := by
  have h : fExp f32 0x3F800000#32 = 127 := by decide
  have h0 : fFrac f32 0x3F800000#32 = 0 := by decide
  have h1 : fSign f32 0x3F800000#32 = false := by decide
  have hb : f32.fracBits = 23 := rfl
  have he : emax f32 = 127 := rfl
  simp only [val, h, h0, h1, hb, he]
  norm_num

theorem val_zero : val f32 0#32 = 0 := by
  have h : fExp f32 0#32 = 0 := by decide
  have h0 : fFrac f32 0#32 = 0 := by decide
  simp [val, h, h0]

theorem val_neg_one : val f32 0xBF800000#32 = -1 := by
  have h : fExp f32 0xBF800000#32 = 127 := by decide
  have h0 : fFrac f32 0xBF800000#32 = 0 := by decide
  have h1 : fSign f32 0xBF800000#32 = true := by decide
  have hb : f32.fracBits = 23 := rfl
  have he : emax f32 = 127 := rfl
  simp only [val, h, h0, h1, hb, he]
  norm_num

theorem finite_one : Finite f32 0x3F800000#32 := ⟨by decide, by decide⟩

/-- ArithmeticRoundsTheExactValue: operands 1.0, with a sum, product, quotient and sum of products that
are not 0, and an integer that is not 0. -/
theorem witness_ArithmeticRoundsTheExactValue :
    IsFormat 32 f32 ∧ Finite f32 0x3F800000#32 ∧
    (let v := val f32 0x3F800000#32
     v + v ≠ 0 ∧ v * v ≠ 0 ∧ v ≠ 0 ∧ v / v ≠ 0 ∧ v * v + v ≠ 0) ∧ ((-1 : Int) : ℚ) ≠ 0 := by
  refine ⟨witness_IsFormat.1, finite_one, ?_⟩
  rw [val_one]
  norm_num

/-- SquareRootIsCorrectlyRounded: 1.0. -/
theorem witness_SquareRootIsCorrectlyRounded :
    IsFormat 32 f32 ∧ Finite f32 0x3F800000#32 ∧ 0 < val f32 0x3F800000#32 := by
  refine ⟨witness_IsFormat.1, finite_one, ?_⟩
  rw [val_one]
  norm_num

/-- InfinitiesAndZeros: finite operands of exact sum 0 and of exact a * b + c = 0, the product a zero and
not; the other clauses below. -/
theorem witness_InfinitiesAndZeros :
    IsFormat 32 f32 ∧ Finite f32 0x3F800000#32 ∧ Finite f32 0xBF800000#32 ∧ Finite f32 0#32 ∧
    ¬fIsZero f32 0x3F800000#32 = true ∧
    val f32 0x3F800000#32 + val f32 0xBF800000#32 = 0 ∧
    val f32 0x3F800000#32 * val f32 0x3F800000#32 + val f32 0xBF800000#32 = 0 ∧
    val f32 0#32 * val f32 0x3F800000#32 + val f32 0#32 = 0 := by
  refine ⟨witness_IsFormat.1, finite_one, ⟨by decide, by decide⟩, ⟨by decide, by decide⟩, by decide, ?_⟩
  rw [val_one, val_neg_one, val_zero]
  norm_num

/-- ComparisonsCompareExactValues: two finite operands of different values; the other clauses below. -/
theorem witness_ComparisonsCompareExactValues :
    IsFormat 32 f32 ∧ Finite f32 0#32 ∧ Finite f32 0x3F800000#32 ∧
    val f32 0#32 < val f32 0x3F800000#32 := by
  refine ⟨witness_IsFormat.1, ⟨by decide, by decide⟩, finite_one, ?_⟩
  rw [val_one, val_zero]
  norm_num

/-- The largest and the least finite value, of both formats, are finite. -/
theorem witness_finite :
    Finite f32 0x7F7FFFFF#32 ∧ Finite f32 0x00000001#32 ∧ Finite f32 0x80000000#32 ∧
    Finite f64 0x7FEFFFFFFFFFFFFF#64 ∧ Finite f64 0x0000000000000001#64 := by
  refine ⟨⟨?_, ?_⟩, ⟨?_, ?_⟩, ⟨?_, ?_⟩, ⟨?_, ?_⟩, ?_, ?_⟩ <;> decide

/-- InfinitiesAndZeros and ComparisonsCompareExactValues: operands of every class, of both signs. -/
theorem witness_classes :
    (fIsNan f32 0x7FC00000#32 = true ∧ fIsNan f32 0x3F800000#32 = false) ∧
    (fIsInf f32 0x7F800000#32 = true ∧ fIsInf f32 0xFF800000#32 = true ∧
      fIsNan f32 0x7F800000#32 = false ∧ fIsNan f32 0xFF800000#32 = false ∧
      fSign f32 0x7F800000#32 = false ∧ fSign f32 0xFF800000#32 = true ∧
      ¬fIsZero f32 0x7F800000#32 = true) ∧
    (fIsZero f32 0#32 = true ∧ fIsZero f32 0x80000000#32 = true ∧
      fSign f32 0#32 ≠ fSign f32 0x80000000#32) ∧
    (Finite f32 0x3F800000#32 ∧ ¬fIsZero f32 0x3F800000#32 = true) := by
  refine ⟨by decide, by decide, by decide, ⟨?_, ?_⟩, ?_⟩ <;> decide

/-- DirectedRoundingIsTight and NearestRoundingIsNearest: a rational that is no value of the format, a
finite result, and one that is not. -/
theorem witness_rounding :
    IsFormat 32 f32 ∧ 0 < 1 ∧ 0 < 3 ∧ Finite f32 (fRound 32 f32 .rne false 1 3 0) ∧
    fRound 32 f32 .rne false 1 1 128 = 0x7F800000#32 ∧
    fRound 32 f32 .rtz false 1 1 128 = 0x7F7FFFFF#32 := by
  refine ⟨witness_IsFormat.1, ?_, ?_, ⟨?_, ?_⟩, ?_, ?_⟩ <;> decide

/-- ConversionToIntegerRoundsAndSaturates: a NaN, an infinity and a finite value, a tie among them. -/
theorem witness_ConversionToInteger :
    fIsNan f32 0x7FC00000#32 = true ∧ fIsInf f32 0xFF800000#32 = true ∧
    fToInt f32 .rne 0xC0200000#32 32 true = 0xFFFFFFFE#32 ∧
    fToInt f32 .rmm 0xC0200000#32 32 true = 0xFFFFFFFD#32 := by decide

/-- ExactConversions: a subnormal, and the integers of magnitude 2^32. -/
theorem witness_ExactConversions :
    Finite f32 0x00000001#32 ∧ (4294967296 : Int).natAbs ≤ 2 ^ 32 ∧
    (-4294967296 : Int).natAbs ≤ 2 ^ 32 :=
  ⟨⟨by decide, by decide⟩, by decide, by decide⟩

end Sys2Proof.Tests
end

section
/-! PROOF. What the accessors read in the reset state (10_state R35), whatever the parameters. -/

namespace Sys2Proof.Machine

@[simp] theorem getX_resetFor (cfg : Config) (r : RegIx) : (State.resetFor cfg).getX r = 0 := by
  by_cases hr : r = 0
  · subst hr
    exact getX_zero _
  · simp [State.getX, State.resetFor]

@[simp] theorem getS_resetFor (cfg : Config) (r : RegIx) : (State.resetFor cfg).getS r = 0 := by
  simp [State.getS, State.resetFor]

@[simp] theorem getD_resetFor (cfg : Config) (r : RegIx) : (State.resetFor cfg).getD r = 0 := by
  simp [State.getD, State.resetFor]

/-- The seven live CSRs are reset by name; an inert CSR reads 0 because reset stores none. -/
@[simp] theorem getCsr_resetFor (cfg : Config) (a : BitVec 12) :
    (State.resetFor cfg).getCsr a = 0 := by
  rcases csr_cases a with rfl | rfl | rfl | rfl | rfl | rfl | rfl | inert
  iterate 7 · rfl
  · exact getCsr_inert inert

end Sys2Proof.Machine

namespace Sys2Proof.Proofs

open Sys2Proof.Machine

/-- Settles O12: the register files and the CSRs by what their accessors read after reset, the other
fields by their reset values. -/
theorem resetValues : Obligations.ResetValues :=
  ⟨getX_resetFor _, rfl, getS_resetFor _, getD_resetFor _, getCsr_resetFor _, rfl, rfl, rfl⟩

end Sys2Proof.Proofs
end

section
/-! PROOF. The memory port in the words of the claims (20_memory R52 to R56): what an access answers when
it is allowed and when it is denied, and what a write stores. -/

namespace Sys2Proof.Machine

open Sys2Proof.Claim

theorem inRange_iff {s : State} {a : Word} {n : Nat} :
    s.inRange a n = true ↔ a.toNat + n ≤ s.cfg.memSize :=
  decide_eq_true_iff

theorem not_inRange_iff {s : State} {a : Word} {n : Nat} :
    s.inRange a n = false ↔ s.cfg.memSize < a.toNat + n :=
  decide_eq_false_iff_not.trans Nat.not_le

theorem memRead_eq_none_iff_denied {s : State} {a : Word} {n : Nat} :
    s.memRead a n = none ↔ Denied s a.toNat n :=
  memRead_eq_none.trans (and_congr_left' not_inRange_iff)

theorem memWrite_eq_none_iff_denied {w : Nat} {s : State} {a : Word} {n : Nat} {v : BitVec w} :
    s.memWrite a n v = none ↔ Denied s a.toNat n :=
  memWrite_eq_none.trans (and_congr_left' not_inRange_iff)

theorem not_denied_of_allowed {s : State} {a n : Nat} (allowed : Allowed s a n) : ¬Denied s a n := by
  rintro ⟨outOfRange, policy⟩
  rcases allowed with inRange | zero
  · omega
  · rw [policy] at zero
    cases zero

theorem memRead_of_allowed {s : State} {a : Word} {n : Nat} (allowed : Allowed s a.toNat n) :
    s.memRead a n = some (loaded s a.toNat n) := by
  by_cases hr : a.toNat + n ≤ s.cfg.memSize
  · exact memRead_eq_some.2 (.inl ⟨inRange_iff.2 hr, if_pos hr⟩)
  · exact memRead_eq_some.2
      (.inr ⟨not_inRange_iff.2 (Nat.not_le.1 hr), allowed.resolve_left hr, if_neg hr⟩)

theorem exists_memWrite_of_allowed {w : Nat} {s : State} {a : Word} {n : Nat} (v : BitVec w)
    (allowed : Allowed s a.toNat n) : ∃ t, s.memWrite a n v = some t :=
  Option.ne_none_iff_exists'.1 fun h => not_denied_of_allowed allowed (memWrite_eq_none_iff_denied.1 h)

/-- A write that raises no trap stores the bytes of the value in range, nothing out of range, and no
other byte. -/
theorem stored_of_memWrite {w : Nat} {s t : State} {a : Word} {n : Nat} {v : BitVec w} (hs : s.Wf)
    (h : s.memWrite a n v = some t) : Stored s t a.toNat n v := by
  intro k
  rcases memWrite_eq_some.1 h with ⟨hr, rfl⟩ | ⟨hr, -, rfl⟩
  · have inRange := inRange_iff.1 hr
    by_cases inside : a.toNat ≤ k ∧ k < a.toNat + n
    · obtain ⟨j, rfl⟩ := Nat.exists_eq_add_of_le inside.1
      rw [if_pos ⟨inRange, inside⟩, Nat.add_sub_cancel_left]
      exact storeBytes_get_inside hs.mem inRange (by omega)
    · rw [if_neg fun c => inside c.2]
      exact storeBytes_get_outside (by omega)
  · exact (if_neg fun c => Nat.not_le.2 (not_inRange_iff.1 hr) c.1).symm

/-- A read in range after a write at the same place returns what was written. -/
theorem memRead_of_memWrite {s t : State} {a : Word} {n : Nat} {v : BitVec (8 * n)} (hs : s.Wf)
    (h : s.memWrite a n v = some t) (inRange : a.toNat + n ≤ s.cfg.memSize) :
    t.memRead a n = some v := by
  rcases memWrite_eq_some.1 h with ⟨hr, rfl⟩ | ⟨hr, -, -⟩
  · have readBack := loadBytes_storeBytes (v := v) hs.mem inRange
    rw [BitVec.setWidth_eq] at readBack
    exact memRead_eq_some.2 (.inl ⟨hr, readBack.symm⟩)
  · exact absurd inRange (Nat.not_le.2 (not_inRange_iff.1 hr))

/-- Byte `k` of a value read in range is the byte at address `a + k` (20_memory R53, R56). -/
theorem extractLsb'_loaded {s : State} {a n k : Nat} (inRange : a + n ≤ s.cfg.memSize) (hk : k < n) :
    (loaded s a n).extractLsb' (8 * k) 8 = byteAt s (a + k) := by
  rw [loaded, if_pos inRange]
  exact loadBytes_byte hk

end Sys2Proof.Machine

namespace Sys2Proof.Proofs

open Sys2Proof.Machine

/-- Settles O23: an access by whether it is allowed, a write by the bytes it stores and by reading them
back. -/
theorem memoryAccesses : Obligations.MemoryAccesses := by
  intro s a n v hs
  refine ⟨fun allowed => ⟨memRead_of_allowed allowed, ?_⟩, fun denied =>
    ⟨memRead_eq_none_iff_denied.2 denied, memWrite_eq_none_iff_denied.2 denied⟩,
    fun inRange k hk => extractLsb'_loaded inRange hk⟩
  obtain ⟨t, write⟩ := exists_memWrite_of_allowed v allowed
  exact ⟨t, write, stored_of_memWrite hs write, (memWrite_frame write).1, memRead_of_memWrite hs write⟩

end Sys2Proof.Proofs
end

section
/-! PROOF. What the decoder answers on a word whose rounding mode is reserved (30_encoding R105), row by
row of the tables whose funct3 is a rounding mode (R98, R99). -/

namespace Sys2Proof

theorem Rm.ofBits_eq_none_iff : ∀ b : BitVec 3, Rm.ofBits b = none ↔ b = 5#3 ∨ b = 6#3 := by
  decide

theorem decode_eq_unknownWord {xl : XLen} {w : IWord} (long : isCompressed w = false)
    (unknown : decode32 xl w = none) : decode xl w = .error (.unknownWord w) := by
  simp [decode, long, unknown]

section ReservedRm
variable {w : IWord} (reserved : Rm.ofBits (Fld.funct3 w) = none)
include reserved

theorem withRm_of_reserved (k : Rm → Instr) : withRm w k = none := by
  rw [withRm, reserved, Option.map_none]

theorem ite_withRm_of_reserved (p : Prop) [Decidable p] (k : Rm → Instr) :
    (if p then withRm w k else none) = none := by
  rw [withRm_of_reserved reserved, ite_self]

theorem withRm64_of_reserved (xl : XLen) (k : Rm → Instr) : withRm64 xl w k = none := by
  cases xl
  case rv32 => rfl
  case rv64 => exact withRm_of_reserved reserved k

theorem decodeFma_of_reserved (kS kD : RegIx → RegIx → RegIx → RegIx → Rm → Instr) :
    decodeFma w kS kD = none := by
  unfold decodeFma
  split
  · exact withRm_of_reserved reserved _
  · exact withRm_of_reserved reserved _
  · rfl

theorem decodeFpCvt_of_reserved (xl : XLen) (k0 k1 k2 k3 : RegIx → RegIx → Rm → Instr) :
    decodeFpCvt xl w k0 k1 k2 k3 = none := by
  unfold decodeFpCvt
  split
  · exact withRm_of_reserved reserved _
  · exact withRm_of_reserved reserved _
  · exact withRm64_of_reserved reserved xl _
  · exact withRm64_of_reserved reserved xl _
  · rfl

/-- The rounding rows of the OP-FP table are of three shapes: the bare rounding mode, the same behind a
fixed rs2 (FSQRT and the conversions between the formats), and the integer conversions. -/
theorem decodeOpFp_of_reserved (xl : XLen) (rounding : Fld.funct7 w ∈ Claim.roundingFunct7) :
    decodeOpFp xl w = none := by
  simp only [Claim.roundingFunct7, List.mem_cons, List.not_mem_nil, or_false] at rounding
  rcases rounding with h | h | h | h | h | h | h | h | h | h | h | h | h | h | h | h <;>
    simp only [decodeOpFp, h]
  iterate 8 · exact withRm_of_reserved reserved _
  iterate 4 · exact ite_withRm_of_reserved reserved _ _
  iterate 4 · exact decodeFpCvt_of_reserved reserved ..

end ReservedRm

theorem decode32_of_fma (xl : XLen) {w : IWord}
    (fma : Fld.opcode w ∈ [0x43#7, 0x47#7, 0x4B#7, 0x4F#7]) :
    isCompressed w = false ∧ ∃ kS kD, decode32 xl w = decodeFma w kS kD := by
  simp only [List.mem_cons, List.not_mem_nil, or_false] at fma
  rcases fma with h | h | h | h <;>
    exact ⟨isCompressed_of_opcode h rfl, _, _, by simp only [decode32, h]; rfl⟩

theorem decode32_of_opFp (xl : XLen) {w : IWord} (opFp : Fld.opcode w = 0x53#7) :
    isCompressed w = false ∧ decode32 xl w = decodeOpFp xl w :=
  ⟨isCompressed_of_opcode opFp rfl, by simp only [decode32, opFp]⟩

end Sys2Proof

namespace Sys2Proof.Proofs

/-- Settles O6: both groups of opcodes are 32-bit words, and every row they select is read through the
rounding mode. -/
theorem reservedRoundingModesAreUnknown : Obligations.ReservedRoundingModesAreUnknown := by
  intro xl w row rm
  have reserved : Rm.ofBits (Fld.funct3 w) = none := (Rm.ofBits_eq_none_iff _).2 rm
  rcases row with fma | ⟨opFp, rounding⟩
  · obtain ⟨long, kS, kD, select⟩ := decode32_of_fma xl fma
    exact decode_eq_unknownWord long (select.trans (decodeFma_of_reserved reserved kS kD))
  · obtain ⟨long, select⟩ := decode32_of_opFp xl opFp
    exact decode_eq_unknownWord long (select.trans (decodeOpFp_of_reserved reserved xl rounding))

end Sys2Proof.Proofs
end

section
/-! PROOF. An instruction that only computes a value, in the words of the claims (41_alu R180 to R201):
XLEN-bit values in their 64-bit slots, and what a register write followed by the default advance does. -/

namespace Sys2Proof.Machine

open Sys2Proof.Claim

/-! ### XLEN-bit values in 64-bit slots (00_scope R7 to R9) -/

theorem xlen_bits_le (xl : XLen) : xl.bits ≤ 64 := by
  cases xl <;> decide

@[simp] theorem setWidth_bits_setWidth (xl : XLen) (v : BitVec xl.bits) :
    (v.setWidth 64).setWidth xl.bits = v := by
  rw [BitVec.setWidth_setWidth_of_le v (xlen_bits_le xl), BitVec.setWidth_eq]

@[simp] theorem xzext_setWidth (xl : XLen) (v : BitVec xl.bits) :
    xzext xl (v.setWidth 64) = v.setWidth 64 := by
  rw [xzext, setWidth_bits_setWidth]

@[simp] theorem setWidth_bits_xsext (xl : XLen) {n : Nat} (v : BitVec n) :
    (xsext xl v).setWidth xl.bits = v.signExtend xl.bits :=
  setWidth_bits_setWidth xl _

theorem setWidth_bits_xzext (xl : XLen) {n : Nat} (v : BitVec n) :
    (xzext xl v).setWidth xl.bits = v.setWidth xl.bits :=
  setWidth_bits_setWidth xl _

theorem boolWord_decide (xl : XLen) (p : Prop) [Decidable p] :
    boolWord (decide p) = (bit xl.bits p).setWidth 64 := by
  cases xl <;> by_cases hp : p <;> simp [boolWord, bit, hp, XLen.bits]

theorem nextPc_eq_after (s : State) (len : Nat) : s.nextPc len = (after s len).setWidth 64 := by
  rw [State.nextPc, xadd, xbin, BitVec.setWidth_ofNat_of_le (xlen_bits_le _)]
  rfl

theorem xadd_pc_upperValue (s : State) (imm : BitVec 20) :
    xadd s.cfg.xlen s.pc (upperValue s.cfg.xlen imm) =
      (pcv s + (imm ++ 0#12).signExtend (Xlen s)).setWidth 64 := by
  rw [xadd, xbin, upperValue, setWidth_bits_xsext, pcv]

/-! ### Shift amounts (41_alu R183) -/

/-- SHMASK keeps the amount modulo XLEN because either XLEN is a power of two. -/
theorem shiftBy_eq_mod (xl : XLen) (b : BitVec xl.bits) : shiftBy b = b.toNat % xl.bits := by
  cases xl
  case rv32 => exact (BitVec.toNat_and b _).trans (Nat.and_two_pow_sub_one_eq_mod b.toNat 5)
  case rv64 => exact (BitVec.toNat_and b _).trans (Nat.and_two_pow_sub_one_eq_mod b.toNat 6)

theorem shiftBy_setWidth_of_lt (xl : XLen) {n : Nat} {shamt : BitVec n} (small : shamt.toNat < xl.bits) :
    shiftBy (shamt.setWidth xl.bits) = shamt.toNat := by
  rw [shiftBy_eq_mod, BitVec.toNat_setWidth, Nat.mod_eq_of_lt (small.trans Nat.lt_two_pow_self),
    Nat.mod_eq_of_lt small]

/-! ### What the shared operations of 41_alu write -/

section Writes
variable {s : State} {len : Nat} {rd rs1 rs2 : RegIx} {v : BitVec (Xlen s)}

theorem retX_writesX {u : Word} (value : u = v.setWidth 64) :
    WritesX s (s.retX len rd u) len rd v := by
  subst value
  refine ⟨?_, fun r other => ?_, ?_, retX_frame ..⟩
  · by_cases zero : rd = 0
    · subst zero
      rfl
    · rw [getX_retX, if_pos ⟨rfl, zero⟩, if_neg zero, xzext_setWidth]
  · rw [getX_retX, if_neg fun same => other same.1]
  · rw [retX_pc, nextPc_eq_after, xzext_setWidth]

theorem aluReg_writesX {f : {w : Nat} → BitVec w → BitVec w → BitVec w}
    (value : f (xv s rs1) (xv s rs2) = v) : WritesX s (s.aluReg len f rd rs1 rs2) len rd v :=
  retX_writesX (congrArg (BitVec.setWidth 64) value)

theorem aluImm_writesX {f : {w : Nat} → BitVec w → BitVec w → BitVec w} {imm : BitVec 12}
    (value : f (xv s rs1) (imm.signExtend (Xlen s)) = v) :
    WritesX s (s.aluImm len f rd rs1 imm) len rd v := by
  refine retX_writesX ?_
  rw [xbin, immValue, setWidth_bits_xsext, ← value, xv]

theorem aluShift_writesX {f : {w : Nat} → BitVec w → BitVec w → BitVec w} {shamt : BitVec 6}
    (value : f (xv s rs1) (shamt.setWidth (Xlen s)) = v) :
    WritesX s (s.aluShift len f rd rs1 shamt) len rd v := by
  refine retX_writesX ?_
  rw [xbin, shamtValue, setWidth_bits_xzext, ← value, xv]

section Comparisons
variable {f : {w : Nat} → BitVec w → BitVec w → Bool} {p : Prop} [Decidable p]

theorem cmpReg_writesX (holds : f (xv s rs1) (xv s rs2) = decide p) :
    WritesX s (s.cmpReg len f rd rs1 rs2) len rd (bit (Xlen s) p) :=
  retX_writesX ((congrArg boolWord holds).trans (boolWord_decide ..))

theorem cmpImm_writesX {imm : BitVec 12}
    (holds : f (xv s rs1) (imm.signExtend (Xlen s)) = decide p) :
    WritesX s (s.cmpImm len f rd rs1 imm) len rd (bit (Xlen s) p) := by
  refine retX_writesX ?_
  rw [xrel, immValue, setWidth_bits_xsext, ← boolWord_decide, ← holds, xv]

end Comparisons

theorem loadUpper_writesX {imm : BitVec 20} :
    WritesX s (s.loadUpper len rd imm) len rd ((imm ++ 0#12).signExtend (Xlen s)) :=
  retX_writesX rfl

end Writes

end Sys2Proof.Machine

namespace Sys2Proof.Proofs

open Sys2Proof.Machine

/-- Settles O29: each instruction is one shared operation; the three shifts need that SHMASK is the
remainder modulo XLEN. -/
theorem aluRegisterResults : Obligations.AluRegisterResults := by
  intro s rd rs1 rs2 w a b
  have amount : shiftBy b = b.toNat % w := shiftBy_eq_mod s.cfg.xlen b
  refine ⟨?add, ?sub, ?sll, ?slt, ?sltu, ?xor, ?srl, ?sra, ?or, ?and⟩
  case sll => exact ⟨_, rfl, aluReg_writesX (congrArg (a <<< ·) amount)⟩
  case srl => exact ⟨_, rfl, aluReg_writesX (congrArg (a >>> ·) amount)⟩
  case sra => exact ⟨_, rfl, aluReg_writesX (congrArg a.sshiftRight amount)⟩
  case slt | sltu => exact ⟨_, rfl, cmpReg_writesX rfl⟩
  case add | sub | xor | or | and => exact ⟨_, rfl, aluReg_writesX rfl⟩

/-- Settles O30: each instruction is one shared operation; an amount below XLEN passes SHMASK
unchanged. -/
theorem aluImmediateResults : Obligations.AluImmediateResults := by
  intro s rd rs1 imm shamt up w a b
  refine ⟨?addi, ?slti, ?sltiu, ?xori, ?ori, ?andi, fun small => ?shifts, ?lui, ?auipc⟩
  case shifts =>
    have amount : shiftBy (shamt.setWidth w) = shamt.toNat :=
      shiftBy_setWidth_of_lt s.cfg.xlen small
    exact ⟨⟨_, rfl, aluShift_writesX (congrArg (a <<< ·) amount)⟩,
      ⟨_, rfl, aluShift_writesX (congrArg (a >>> ·) amount)⟩,
      ⟨_, rfl, aluShift_writesX (congrArg a.sshiftRight amount)⟩⟩
  case slti | sltiu => exact ⟨_, rfl, cmpImm_writesX rfl⟩
  case addi | xori | ori | andi => exact ⟨_, rfl, aluImm_writesX rfl⟩
  case lui => exact ⟨_, rfl, loadUpper_writesX⟩
  case auipc => exact ⟨_, rfl, retX_writesX (xadd_pc_upperValue s up)⟩

end Sys2Proof.Proofs
end

section
/-! PROOF. Products, quotients and remainders (42_muldiv R220 to R229): the model computes them on exact
integers, the claims state them by double-width bit vectors and by the relations of the corner cases. -/

namespace Sys2Proof.Machine

open Sys2Proof.Claim

section AnyWidth
variable {w : Nat} (a b : BitVec w)

/-! ### Upper halves of products (R222 to R224) -/

/-- The upper half does not see what the double width cuts off: reducing `p` modulo `2 ^ (2 * w)`
changes its quotient by a multiple of `2 ^ w`. -/
theorem ofInt_ediv_two_pow (p : Int) :
    BitVec.ofInt w (p / 2 ^ w) = (BitVec.ofInt (2 * w) p).extractLsb' w w := by
  have nonzero : (2 : Int) ^ w ≠ 0 := by positivity
  have half : p % (2 ^ w * 2 ^ w) / 2 ^ w % 2 ^ w = p / 2 ^ w % 2 ^ w := by
    rw [Int.emod_def p, Int.mul_assoc, Int.sub_mul_ediv_left _ _ nonzero, Int.sub_mul_emod_self_left]
  apply BitVec.eq_of_toNat_eq
  rw [BitVec.extractLsb'_toNat, BitVec.toNat_ofInt, BitVec.toNat_ofInt, Nat.shiftRight_eq_div_pow]
  zify
  rw [two_mul w, pow_add, Int.toNat_of_nonneg (Int.emod_nonneg _ (mul_ne_zero nonzero nonzero)), half,
    Int.toNat_of_nonneg (Int.emod_nonneg _ nonzero)]

theorem mulhOp_eq :
    mulhOp a b = (a.signExtend (2 * w) * b.signExtend (2 * w)).extractLsb' w w := by
  rw [mulhOp, ofInt_ediv_two_pow, BitVec.ofInt_mul]
  rfl

theorem mulhsuOp_eq :
    mulhsuOp a b = (a.signExtend (2 * w) * b.setWidth (2 * w)).extractLsb' w w := by
  rw [mulhsuOp, ofInt_ediv_two_pow, BitVec.ofInt_mul, BitVec.ofInt_natCast, BitVec.ofNat_toNat]
  rfl

theorem mulhuOp_eq :
    mulhuOp a b = (a.setWidth (2 * w) * b.setWidth (2 * w)).extractLsb' w w := by
  have integers : mulhuOp a b = BitVec.ofInt w ((a.toNat * b.toNat : Nat) / 2 ^ w) := by
    rw [mulhuOp, ← BitVec.ofInt_natCast]
    norm_cast
  rw [integers, ofInt_ediv_two_pow, BitVec.ofInt_natCast, BitVec.ofNat_mul, BitVec.ofNat_toNat,
    BitVec.ofNat_toNat]

/-! ### Quotients and remainders (R225 to R228) -/

variable {a b}

theorem toInt_eq_neg_one_iff (nonzero : b ≠ 0) : b.toInt = -1 ↔ b = BitVec.allOnes w := by
  have pos : 0 < w := Nat.pos_of_ne_zero (by rintro rfl; exact nonzero (Subsingleton.elim b 0))
  rw [← BitVec.toInt_inj, BitVec.toInt_allOnes, if_pos pos]

/-- Away from the signed overflow the quotient fits in `w` bits. -/
theorem toInt_ofInt_tdiv (fits : ¬(a = BitVec.intMin w ∧ b = BitVec.allOnes w)) :
    (BitVec.ofInt w (a.toInt.tdiv b.toInt)).toInt = a.toInt.tdiv b.toInt := by
  rw [BitVec.toInt_ofInt, ← BitVec.toInt_sdiv, BitVec.toInt_sdiv_of_ne_or_ne]
  rwa [BitVec.neg_one_eq_allOnes, ← not_and_or]

variable (a b)

theorem isDiv_divOp : IsDiv a b (divOp a b) := by
  unfold IsDiv divOp
  by_cases zero : b = 0
  · rw [if_pos zero, if_pos zero]
  simp only [zero, toInt_eq_neg_one_iff zero, ↓reduceIte]
  by_cases overflow : a = BitVec.intMin w ∧ b = BitVec.allOnes w
  · rw [if_pos overflow, if_pos overflow]
  · rw [if_neg overflow, if_neg overflow, toInt_ofInt_tdiv overflow]

theorem isDivu_divuOp : IsDivu a b (divuOp a b) := by
  unfold IsDivu divuOp
  by_cases zero : b = 0
  · rw [if_pos zero, if_pos zero]
  · rw [if_neg zero, if_neg zero, ← BitVec.toNat_udiv, BitVec.ofNat_toNat, BitVec.setWidth_eq]

theorem isRem_remOp : IsRem a b (remOp a b) := by
  unfold IsRem remOp
  by_cases zero : b = 0
  · rw [if_pos zero, if_pos zero]
  simp only [zero, toInt_eq_neg_one_iff zero, ↓reduceIte]
  by_cases overflow : a = BitVec.intMin w ∧ b = BitVec.allOnes w
  · rw [if_pos overflow, if_pos overflow]
  · rw [if_neg overflow, if_neg overflow, ← BitVec.toInt_srem, BitVec.ofInt_toInt]

theorem isRemu_remuOp : IsRemu a b (remuOp a b) := by
  unfold IsRemu remuOp
  by_cases zero : b = 0
  · rw [if_pos zero, if_pos zero]
  · rw [if_neg zero, if_neg zero, ← BitVec.toNat_umod, BitVec.ofNat_toNat, BitVec.setWidth_eq]

/-! ### The corner-case table (R229) -/

/-- A row of the table: what DIV, DIVU, REM and REMU compute from `a` and `b`. -/
@[reducible] def DivisionRow (dv dvu rm rmu : BitVec w) : Prop :=
  divOp a b = dv ∧ divuOp a b = dvu ∧ remOp a b = rm ∧ remuOp a b = rmu

theorem divisionRow_zero : DivisionRow a 0 (BitVec.allOnes w) (BitVec.allOnes w) a a :=
  ⟨if_pos rfl, if_pos rfl, if_pos rfl, if_pos rfl⟩

end AnyWidth

section TableRows
variable (xl : XLen)

theorem divisionRow_intMin_allOnes :
    DivisionRow (BitVec.intMin xl.bits) (BitVec.allOnes xl.bits) (BitVec.intMin xl.bits) 0 0
      (BitVec.intMin xl.bits) := by
  cases xl <;> decide

theorem divisionRow_intMin_one :
    DivisionRow (BitVec.intMin xl.bits) 1 (BitVec.intMin xl.bits) (BitVec.intMin xl.bits) 0 0 := by
  cases xl <;> decide

theorem divisionRow_seven_negTwo :
    DivisionRow 7 (BitVec.ofInt xl.bits (-2)) (BitVec.ofInt xl.bits (-3)) 0 1 7 := by
  cases xl <;> decide

end TableRows

end Sys2Proof.Machine

namespace Sys2Proof.Proofs

open Sys2Proof.Machine

/-- Settles O31: each instruction is one shared operation; MULH, MULHSU and MULHU need that the upper
half of the exact product is that of the double-width one. -/
theorem multiplyResults : Obligations.MultiplyResults := by
  intro s rd rs1 rs2 w a b
  refine ⟨?mul, ?mulh, ?mulhsu, ?mulhu⟩
  case mul => exact ⟨_, rfl, aluReg_writesX rfl⟩
  case mulh => exact ⟨_, rfl, aluReg_writesX (mulhOp_eq a b)⟩
  case mulhsu => exact ⟨_, rfl, aluReg_writesX (mulhsuOp_eq a b)⟩
  case mulhu => exact ⟨_, rfl, aluReg_writesX (mulhuOp_eq a b)⟩

/-- Settles O32: each instruction is one shared operation, whose result meets the relation for all
operands; the rows of the table are evaluated at either XLEN. -/
theorem divisionResults : Obligations.DivisionResults := by
  intro s rd rs1 rs2 w a b gives
  have row {dv dvu rm rmu : BitVec w} : DivisionRow a b dv dvu rm rmu → gives dv dvu rm rmu :=
    fun ⟨div, divu, rem, remu⟩ =>
      ⟨⟨_, rfl, aluReg_writesX div⟩, ⟨_, rfl, aluReg_writesX divu⟩, ⟨_, rfl, aluReg_writesX rem⟩,
        ⟨_, rfl, aluReg_writesX remu⟩⟩
  refine ⟨?div, ?divu, ?rem, ?remu, fun zero => ?byZero, fun min ones => ?overflow,
    fun min one => ?byOne, fun seven negTwo => ?byNegTwo⟩
  case div => exact ⟨_, rfl, _, isDiv_divOp a b, aluReg_writesX rfl⟩
  case divu => exact ⟨_, rfl, _, isDivu_divuOp a b, aluReg_writesX rfl⟩
  case rem => exact ⟨_, rfl, _, isRem_remOp a b, aluReg_writesX rfl⟩
  case remu => exact ⟨_, rfl, _, isRemu_remuOp a b, aluReg_writesX rfl⟩
  case byZero =>
    rw [zero] at row
    exact row (divisionRow_zero a)
  case overflow =>
    rw [min, ones] at row
    exact row (divisionRow_intMin_allOnes s.cfg.xlen)
  case byOne =>
    rw [min, one] at row
    exact row (divisionRow_intMin_one s.cfg.xlen)
  case byNegTwo =>
    rw [seven, negTwo] at row
    exact row (divisionRow_seven_negTwo s.cfg.xlen)

end Sys2Proof.Proofs
end

section
/-! PROOF. Integer loads and stores in the words of the claims (43_load_store R240 to R251): the effective
address, and the two ways an access can end. -/

namespace Sys2Proof.Machine

open Sys2Proof.Claim

theorem toNat_ea (s : State) (rs1 : RegIx) (imm : BitVec 12) :
    (s.ea rs1 imm).toNat = ea s rs1 imm := by
  rw [State.ea, xadd, xbin, immValue, setWidth_bits_xsext,
    BitVec.toNat_setWidth_of_le (xlen_bits_le _)]
  rfl

theorem onlyAt_eq {xl : XLen} {len : Nat} {s k : State} (here : s.cfg.xlen = xl) :
    onlyAt xl len s k = k :=
  if_pos here

theorem thirtyTwo_le_bits (xl : XLen) : 32 ≤ xl.bits := by
  cases xl <;> decide

theorem advance_eq_after (s : State) (len : Nat) :
    s.advance len = { s with pc := (after s len).setWidth 64 } := by
  rw [State.advance, State.setPc, nextPc_eq_after, xzext_setWidth]

section Accesses
variable {i : Instr} {s : State} {n : Nat} {rs1 : RegIx} {imm : BitVec 12}

/-! ### Loads -/

theorem loadX_of_allowed {len : Nat} {ext : XLen → BitVec (8 * n) → Word} {rd : RegIx}
    (allowed : Allowed s (ea s rs1 imm) n) :
    s.loadX len n ext rd rs1 imm =
      s.retX len rd (ext s.cfg.xlen (loaded s (ea s rs1 imm) n)) := by
  rw [← toNat_ea] at allowed ⊢
  rw [State.loadX, memRead_of_allowed allowed]

theorem loadX_of_denied {len : Nat} {ext : XLen → BitVec (8 * n) → Word} {rd : RegIx}
    (denied : Denied s (ea s rs1 imm) n) :
    s.loadX len n ext rd rs1 imm = s.trap .loadAccess := by
  rw [← toNat_ea] at denied
  rw [State.loadX, memRead_eq_none_iff_denied.2 denied]

theorem loadsX_of_exec {ext : XLen → BitVec (8 * n) → Word} {rd : RegIx} {v : BitVec (Xlen s)}
    (runs : exec i s = .next (s.loadX 4 n ext rd rs1 imm))
    (value : ext s.cfg.xlen (loaded s (ea s rs1 imm) n) = v.setWidth 64) :
    LoadsX i s (ea s rs1 imm) n rd v := by
  refine ⟨fun allowed => ⟨_, runs, ?_⟩, fun denied => ⟨_, runs, loadX_of_denied denied⟩⟩
  rw [loadX_of_allowed allowed]
  exact retX_writesX value

/-! ### Stores -/

theorem storeVal_of_denied {w len : Nat} {v : BitVec w} (denied : Denied s (ea s rs1 imm) n) :
    s.storeVal len n v rs1 imm = s.trap .storeAccess := by
  rw [← toNat_ea] at denied
  rw [State.storeVal, memWrite_eq_none_iff_denied.2 denied]

theorem storeVal_of_memWrite {w len : Nat} {v : BitVec w} {t : State}
    (write : s.memWrite (s.ea rs1 imm) n v = some t) :
    s.storeVal len n v rs1 imm = t.advance len := by
  rw [State.storeVal, write]

/-- An allowed store is its memory write and the default advance. -/
theorem storeVal_of_allowed {w len : Nat} {v : BitVec w} {t : State} (hs : s.Wf)
    (allowed : Allowed s (ea s rs1 imm) n) (store : s.storeVal len n v rs1 imm = t) :
    Stored s t (ea s rs1 imm) n v ∧ t = { s with mem := t.mem, pc := (after s len).setWidth 64 } := by
  rw [← toNat_ea] at allowed ⊢
  obtain ⟨u, write⟩ := exists_memWrite_of_allowed v allowed
  have stored := stored_of_memWrite hs write
  rw [storeVal_of_memWrite write] at store
  subst store
  refine ⟨stored, ?_⟩
  rw [advance_eq_after, (memWrite_frame write).1]
  rfl

theorem storesAt_of_exec {w : Nat} {v : BitVec w} (hs : s.Wf)
    (runs : exec i s = .next (s.storeVal 4 n v rs1 imm)) : StoresAt i s (ea s rs1 imm) n v :=
  ⟨fun allowed => ⟨_, runs, storeVal_of_allowed hs allowed rfl⟩,
    fun denied => ⟨_, runs, storeVal_of_denied denied⟩⟩

/-- Only the low `n` bytes of the stored value matter. -/
theorem stored_setWidth_iff {t : State} {a w w' : Nat} {v : BitVec w} (fits : 8 * n ≤ w') :
    Stored s t a n (v.setWidth w') ↔ Stored s t a n v := by
  refine forall_congr' fun k => ?_
  by_cases inside : a + n ≤ s.cfg.memSize ∧ a ≤ k ∧ k < a + n
  · rw [if_pos inside, if_pos inside, BitVec.extractLsb'_setWidth_of_le (by omega)]
  · rw [if_neg inside, if_neg inside]

theorem storesAt_setWidth_iff {a w w' : Nat} {v : BitVec w} (fits : 8 * n ≤ w') :
    StoresAt i s a n (v.setWidth w') ↔ StoresAt i s a n v := by
  simp only [StoresAt, stored_setWidth_iff fits]

/-- The 64-bit slot of x[rs2] is stored, whose low bytes are those of its XLEN-bit value. -/
theorem storesAt_xv_of_exec {rs2 : RegIx} (hs : s.Wf) (fits : 8 * n ≤ Xlen s)
    (runs : exec i s = .next (s.storeX 4 n rs1 rs2 imm)) :
    StoresAt i s (ea s rs1 imm) n (xv s rs2) :=
  (storesAt_setWidth_iff fits).2 (storesAt_of_exec hs runs)

end Accesses

end Sys2Proof.Machine

namespace Sys2Proof.Proofs

open Sys2Proof.Machine

/-- Settles O34: each instruction is one shared load, with the extension its name says. -/
theorem integerLoads : Obligations.IntegerLoads := by
  intro s rd rs1 imm w a
  refine ⟨?lb, ?lh, ?lw, ?lbu, ?lhu, fun rv64 => ⟨?lwu, ?ld⟩⟩
  case lb | lh | lw | lbu | lhu => exact loadsX_of_exec rfl rfl
  case lwu | ld => exact loadsX_of_exec (congrArg Host.Outcome.next (onlyAt_eq rv64)) rfl

/-- Settles O35: each instruction is one shared store, and XLEN holds the bytes it stores. -/
theorem integerStores : Obligations.IntegerStores := by
  intro s rs1 rs2 imm hs a
  have word : 8 * 4 ≤ Claim.Xlen s := thirtyTwo_le_bits _
  refine ⟨?sb, ?sh, ?sw, fun rv64 => ?sd⟩
  case sb | sh | sw => exact storesAt_xv_of_exec hs (by omega) rfl
  case sd =>
    have doubleword : 8 * 8 ≤ Claim.Xlen s := by rw [Claim.Xlen, rv64]; decide
    exact storesAt_xv_of_exec hs doubleword (congrArg Host.Outcome.next (onlyAt_eq rv64))

end Sys2Proof.Proofs
end

section
/-! PROOF. Branches and jumps in the words of the claims (44_control R260 to R276): their targets as
XLEN-bit values, and where the shared operations leave the pc and the link. -/

namespace Sys2Proof.Machine

open Sys2Proof.Claim

/-! ### Targets -/

/-- Every offset of 44_control is a sign-extended immediate (30_encoding R77, R80, R81). -/
theorem xadd_xsext (xl : XLen) {n : Nat} (a : Word) (imm : BitVec n) :
    xadd xl a (xsext xl imm) = (a.setWidth xl.bits + imm.signExtend xl.bits).setWidth 64 := by
  rw [xadd, xbin, setWidth_bits_xsext]

/-- The masks differ only above the width of `v`, where its slot holds zeros; they stay symbolic so that
each is read bit by bit. -/
theorem clearBit0_setWidth {w : Nat} (v : BitVec w) :
    clearBit0 (v.setWidth 64) = (v &&& ~~~1#w).setWidth 64 := by
  ext i hi
  by_cases inside : i < w
  · simp [clearBit0, -BitVec.reduceNot, inside]
  · simp [clearBit0, -BitVec.reduceNot, BitVec.getLsbD_of_ge v i (Nat.le_of_not_lt inside)]

/-! ### What the shared operations of 44_control do -/

section Control
variable {s : State} {len : Nat} {rd rs1 : RegIx}

theorem setPc_goes {a : Word} {next : BitVec (Xlen s)} (target : a = next.setWidth 64) :
    Goes s (s.setPc a) next := by
  rw [Goes, State.setPc, target, xzext_setWidth]

theorem branch_goes {taken : Bool} {off : BitVec 12} {p : Prop} [Decidable p]
    (holds : taken = decide p) :
    Goes s (s.branch len taken off)
      (if p then pcv s + (off ++ 0#1).signExtend (Xlen s) else after s len) := by
  subst holds
  by_cases hp : p
  · rw [State.branch, if_pos (decide_eq_true hp), if_pos hp]
    exact setPc_goes (xadd_xsext ..)
  · rw [State.branch, if_neg (by simpa using hp), if_neg hp]
    exact advance_eq_after s len

/-- A jump writes its link as `retX` writes a result, and differs from it in the pc only. -/
theorem setX_setPc_setsX {a : Word} {next : BitVec (Xlen s)} (target : a = next.setWidth 64) :
    SetsX s ((s.setX rd (s.nextPc len)).setPc a) rd (after s len) next := by
  obtain ⟨value, others, -, -⟩ := retX_writesX (len := len) (rd := rd) (nextPc_eq_after s len)
  refine ⟨value, others, ?_, ?_⟩
  · rw [setPc_pc, setX_cfg, target, xzext_setWidth]
  · rw [State.setPc, setX_frame]

theorem jal_setsX (off : BitVec 20) :
    SetsX s (s.jal len rd off) rd (after s len) (pcv s + (off ++ 0#1).signExtend (Xlen s)) :=
  setX_setPc_setsX (xadd_xsext ..)

theorem jalr_setsX (imm : BitVec 12) :
    SetsX s (s.jalr len rd rs1 imm) rd (after s len)
      ((xv s rs1 + imm.signExtend (Xlen s)) &&& ~~~1#(Xlen s)) :=
  setX_setPc_setsX ((congrArg clearBit0 (xadd_xsext ..)).trans (clearBit0_setWidth _))

end Control

end Sys2Proof.Machine

namespace Sys2Proof.Proofs

open Sys2Proof.Machine

/-- Settles O37: each instruction is one shared branch; BNE, BGE and BGEU negate the comparison of BEQ,
BLT and BLTU. -/
theorem branchTargets : Obligations.BranchTargets := by
  intro s rs1 rs2 off a b target next
  refine ⟨?beq, ?bne, ?blt, ?bge, ?bltu, ?bgeu⟩
  case beq | blt | bltu => exact ⟨_, rfl, branch_goes rfl⟩
  case bne => exact ⟨_, rfl, branch_goes decide_not.symm⟩
  case bge => exact ⟨_, rfl, branch_goes BitVec.sle_eq_not_slt.symm⟩
  case bgeu => exact ⟨_, rfl, branch_goes (BitVec.ule_eq_not_ult b a).symm⟩

/-- Settles O38: both are the link write and the jump; JALR's target is computed in the state before
the link write. -/
theorem jumpTargetsAndLinks : Obligations.JumpTargetsAndLinks := fun _ _ _ off imm =>
  ⟨⟨_, rfl, jal_setsX off⟩, ⟨_, rfl, jalr_setsX imm⟩⟩

end Sys2Proof.Proofs
end

section
/-! PROOF. Trap returns, fences and CSR instructions in the words of the claims (45_system R283 to
R299): the bits a trap return leaves in its status register, and what the common CSR operation writes. -/

namespace Sys2Proof.Machine

open Sys2Proof.Claim

/-! ### Fields of a status register (10_state R29, R30) -/

section Fields
variable {n lo : Nat} (fits : lo + n ≤ 32) (s : CsrWord) (v : BitVec n)
include fits

theorem getLsbD_setField (k : Nat) :
    (setField s lo v).getLsbD k =
      if lo ≤ k ∧ k < lo + n then v.getLsbD (k - lo) else s.getLsbD k := by
  rcases Nat.lt_or_ge k 32 with word | beyond
  · rcases Nat.lt_or_ge k lo with below | reached
    · simp [setField, word, below, Nat.not_le.2 below]
    · have inside : k < lo + n ↔ k - lo < n := (Nat.sub_lt_iff_lt_add' reached).symm
      rcases Nat.lt_or_ge (k - lo) n with field | above
      · simp [setField, word, reached, inside, field, Nat.not_lt.2 reached]
      · simp [setField, word, reached, inside, Nat.not_lt.2 above, Nat.not_lt.2 reached,
          BitVec.getLsbD_of_ge v _ above]
  · rw [if_neg (by omega), BitVec.getLsbD_of_ge _ _ beyond, BitVec.getLsbD_of_ge _ _ beyond]

/-- A field reads back the value last written. -/
theorem extractLsb'_setField : (setField s lo v).extractLsb' lo n = v := by
  ext j hj
  rw [BitVec.getElem_extractLsb', getLsbD_setField fits, if_pos (by omega), Nat.add_sub_cancel_left,
    BitVec.getLsbD_eq_getElem]

end Fields

theorem getLsbD_setField_bit {lo : Nat} (fits : lo < 32) (s : CsrWord) (b : BitVec 1) (k : Nat) :
    (setField s lo b).getLsbD k = if k = lo then b.getLsbD 0 else s.getLsbD k := by
  have here : lo ≤ k ∧ k < lo + 1 ↔ k = lo := by omega
  rw [getLsbD_setField fits]
  by_cases same : k = lo
  · rw [if_pos (here.2 same), if_pos same, same, Nat.sub_self]
  · rw [if_neg (mt here.1 same), if_neg same]

/-! ### Status registers after a trap return (R283, R284) -/

theorem getLsbD_mstatusOnMret (s : CsrWord) (k : Nat) :
    (mstatusOnMret s).getLsbD k =
      if 11 ≤ k ∧ k < 13 then false
      else if k = 7 then true
      else if k = 3 then s.getLsbD 7
      else s.getLsbD k := by
  rw [mstatusOnMret, getLsbD_setField (by decide), getLsbD_setField_bit (by decide),
    getLsbD_setField_bit (by decide), BitVec.getLsbD_zero, mpie, BitVec.getLsbD_extractLsb']
  rfl

theorem getLsbD_sstatusOnSret (s : CsrWord) (k : Nat) :
    (sstatusOnSret s).getLsbD k =
      if k = 8 then false
      else if k = 5 then true
      else if k = 1 then s.getLsbD 5
      else s.getLsbD k := by
  rw [sstatusOnSret, getLsbD_setField_bit (by decide), getLsbD_setField_bit (by decide),
    getLsbD_setField_bit (by decide), spie, BitVec.getLsbD_extractLsb']
  rfl

theorem sretPriv_eq (s : CsrWord) : sretPriv s = if s.getLsbD 8 then 1 else 0 := by
  rw [sretPriv, spp, BitVec.getLsbD_eq_extractLsb']
  simp only [beq_iff_eq]
  rfl

/-! ### CSRs (R293) -/

/-- A CSR value fits in a register at either XLEN. -/
theorem xzext_csr (xl : XLen) (v : CsrWord) : xzext xl v = v.setWidth 64 :=
  BitVec.setWidth_setWidth fun narrows => Nat.not_lt.2 (thirtyTwo_le_bits xl) narrows.1

@[simp] theorem getCsr_setX (s : State) (r : RegIx) (v : Word) (a : BitVec 12) :
    (s.setX r v).getCsr a = s.getCsr a := by
  rw [setX_frame]
  rfl

theorem setCsr_frame (s : State) (a : BitVec 12) (v : CsrWord) :
    let t := s.setCsr a v
    t = { s with
      mstatus := t.mstatus, mtvec := t.mtvec, mepc := t.mepc, mcause := t.mcause,
      sstatus := t.sstatus, sepc := t.sepc, scause := t.scause, csrs := t.csrs } := by
  unfold State.setCsr
  split <;> rfl

section CsrOperation
variable {s : State} {len : Nat} {new : CsrWord → CsrWord} {rd : RegIx} {csr : BitVec 12}

/-- The register of a CSR operation is written as `retX` writes a result. -/
theorem getX_csrOp (r : RegIx) :
    (s.csrOp len new rd csr).getX r =
      (s.retX len rd (xzext s.cfg.xlen (s.getCsr csr))).getX r :=
  getX_setCsr ..

theorem csrOp_pc : (s.csrOp len new rd csr).pc = (after s len).setWidth 64 := by
  have start : (s.csrOp len new rd csr).pc = xzext s.cfg.xlen (s.nextPc len) := by
    simp [State.csrOp, State.nextPc]
  rw [start, nextPc_eq_after, xzext_setWidth]

theorem csrOp_frame :
    let t := s.csrOp len new rd csr
    t = { s with
      x := t.x, pc := t.pc, mstatus := t.mstatus, mtvec := t.mtvec, mepc := t.mepc,
      mcause := t.mcause, sstatus := t.sstatus, sepc := t.sepc, scause := t.scause,
      csrs := t.csrs } := by
  rw [State.csrOp, State.advance, State.setPc, setCsr_frame, setX_frame]

theorem csrOp_writesCsr (hs : s.Wf) :
    WritesCsr s (s.csrOp 4 new rd csr) rd csr (new (s.getCsr csr)) := by
  obtain ⟨value, others, -, -⟩ :=
    retX_writesX (s := s) (len := 4) (rd := rd) (v := (s.getCsr csr).setWidth (Xlen s)) rfl
  refine ⟨?new, fun a other => ?otherCsrs, ?old, fun r other => ?otherRegisters, csrOp_pc,
    csrOp_frame⟩
  case new => exact getCsr_setCsr_eq (by rw [setX_csrs, hs.csrs]) csr _
  case otherCsrs => exact (getCsr_setCsr_ne _ other _).trans (getCsr_setX ..)
  case old =>
    rw [getX_csrOp, ← xzext_csr s.cfg.xlen]
    exact value
  case otherRegisters =>
    rw [getX_csrOp]
    exact others r other

end CsrOperation

end Sys2Proof.Machine

namespace Sys2Proof.Proofs

open Sys2Proof.Machine

/-- Settles O26: the pc and the level are read in the state before, the bits of the status register
by position. -/
theorem trapReturns : Obligations.TrapReturns := by
  intro s rs1 rd
  refine ⟨⟨_, rfl, ?mret⟩, ⟨_, rfl, ?sret⟩⟩
  case mret =>
    refine ⟨xzext_csr .., rfl, getLsbD_mstatusOnMret _ 3, getLsbD_mstatusOnMret _ 7,
      extractLsb'_setField (by decide) _ _, fun k h3 h7 h11 h12 => ?_, rfl⟩
    rw [mret_mstatus, getLsbD_mstatusOnMret, if_neg (by omega), if_neg h7, if_neg h3]
  case sret =>
    refine ⟨xzext_csr .., sretPriv_eq _, getLsbD_sstatusOnSret _ 1, getLsbD_sstatusOnSret _ 5,
      getLsbD_sstatusOnSret _ 8, fun k h1 h5 h8 => ?_, rfl⟩
    rw [sret_sstatus, getLsbD_sstatusOnSret, if_neg h8, if_neg h5, if_neg h1]

/-- Settles O27: each is the default advance, whatever its fields. -/
theorem fencesAndWfiOnlyAdvance : Obligations.FencesAndWfiOnlyAdvance := by
  intro s rs1 rs2 rd fm pred succ f
  refine ⟨?wfi, ?sfenceVma, ?fence, ?fenceSystem, ?fenceI⟩
  case wfi | sfenceVma | fence | fenceSystem | fenceI => exact ⟨_, rfl, advance_eq_after s 4⟩

/-- Settles O28: each is the common CSR operation, with its own new value. -/
theorem csrInstructions : Obligations.CsrInstructions := by
  intro s rd rs1 csr zimm hs
  refine ⟨?csrrw, ?csrrs, ?csrrc, ?csrrwi, ?csrrsi, ?csrrci⟩
  case csrrw | csrrs | csrrc | csrrwi | csrrsi | csrrci => exact ⟨_, rfl, csrOp_writesCsr hs⟩

end Sys2Proof.Proofs
end

section
/-! PROOF. Atomics in the words of the claims (46_atomic R310 to R332): the address in x[rs1], and every
way LR, SC and a read-modify-write can end. -/

namespace Sys2Proof.Machine

open Sys2Proof.Claim

/-! ### The address -/

theorem getX_fits {s : State} (hs : s.Wf) (r : RegIx) : fitsXlen s.cfg.xlen (s.getX r) := by
  rw [State.getX]
  split
  · exact zero_fits _
  · exact hs.x ⟨r.toNat, r.isLt⟩

/-- A register's XLEN-bit value and its slot are one address, since the slot is zero-extended. -/
theorem toNat_xv {s : State} (hs : s.Wf) (r : RegIx) : (xv s r).toNat = (s.getX r).toNat := by
  calc (xv s r).toNat
    _ = (xzext s.cfg.xlen (s.getX r)).toNat := (BitVec.toNat_setWidth_of_le (xlen_bits_le _)).symm
    _ = (s.getX r).toNat := congrArg BitVec.toNat (getX_fits hs r)

/-! ### Values -/

/-- At XLEN 64 a doubleword is returned as it is: there are no bits to extend it by. -/
theorem xsext_of_rv64 {xl : XLen} (rv64 : xl = .rv64) (v : BitVec 64) :
    xsext xl v = (v.setWidth xl.bits).setWidth 64 := by
  subst rv64
  exact congrArg (BitVec.setWidth 64) ((BitVec.signExtend_eq v).trans (BitVec.setWidth_eq v).symm)

theorem one_setWidth_bits (xl : XLen) : (1 : BitVec xl.bits).setWidth 64 = 1 := by
  cases xl <;> rfl

section Comparisons
variable {w : Nat} (old b : BitVec w)

theorem amoMin_eq : amoMin old b = if old.toInt < b.toInt then old else b := by
  simp only [amoMin, BitVec.slt_iff_toInt_lt]

theorem amoMinu_eq : amoMinu old b = if old.toNat < b.toNat then old else b := by
  simp only [amoMinu, BitVec.ult_iff_toNat_lt]

theorem amoMax_eq : amoMax old b = if b.toInt ≤ old.toInt then old else b := by
  simp only [amoMax, BitVec.slt_iff_toInt_lt, ← not_lt, ite_not]

theorem amoMaxu_eq : amoMaxu old b = if b.toNat ≤ old.toNat then old else b := by
  simp only [amoMaxu, BitVec.ult_iff_toNat_lt, ← not_lt, ite_not]

end Comparisons

section Atomics
variable {i : Instr} {s t : State} {n : Nat} {rd rs1 rs2 : RegIx}

/-- Only the bytes of the later state matter. -/
theorem stored_of_mem_eq {w a : Nat} {v : BitVec w} {u : State} (same : u.mem = t.mem)
    (stored : Stored s t a n v) : Stored s u a n v := by
  intro k
  rw [byteAt, same]
  exact stored k

/-! ### Load-reserved (R311, R313) -/

theorem loadReserved_writesX {v : BitVec (Xlen s)} (hs : s.Wf)
    (allowed : Allowed s (xv s rs1).toNat n)
    (value : xsext s.cfg.xlen (loaded s (xv s rs1).toNat n) = v.setWidth 64) :
    WritesX { s with resvAddr := s.getX rs1, resvValid := true } (s.loadReserved n rd rs1) 4 rd v := by
  rw [toNat_xv hs] at allowed value
  rw [State.loadReserved, memRead_of_allowed allowed]
  exact retX_writesX value

theorem loadReserved_of_denied (hs : s.Wf) (denied : Denied s (xv s rs1).toNat n) :
    s.loadReserved n rd rs1 = s.trap .loadAccess := by
  rw [toNat_xv hs] at denied
  rw [State.loadReserved, memRead_eq_none_iff_denied.2 denied]

/-! ### Store-conditional (R312, R314) -/

theorem storeConditional_of_memWrite (held : s.resvValid = true ∧ s.resvAddr = s.getX rs1)
    (write : s.memWrite (s.getX rs1) n (s.getX rs2) = some t) :
    s.storeConditional n rd rs1 rs2 = State.retX { t with resvValid := false } 4 rd 0 := by
  simpa [held, write] using storeConditional_cases s n rd rs1 rs2

theorem storeConditional_of_denied (held : s.resvValid = true ∧ s.resvAddr = s.getX rs1)
    (denied : Denied s (s.getX rs1).toNat n) :
    s.storeConditional n rd rs1 rs2 = s.trap .storeAccess := by
  simpa [held, memWrite_eq_none_iff_denied.2 denied] using storeConditional_cases s n rd rs1 rs2

theorem storeConditional_of_not_held (lost : ¬(s.resvValid = true ∧ s.resvAddr = s.getX rs1)) :
    s.storeConditional n rd rs1 rs2 = State.retX { s with resvValid := false } 4 rd 1 := by
  rcases storeConditional_cases s n rd rs1 rs2 with ⟨valid, addr, -⟩ | ⟨-, fails⟩
  · exact absurd ⟨valid, addr⟩ lost
  · exact fails

/-- A successful SC is its memory write, 0 in x[rd] and the end of the reservation. -/
theorem storeConditional_of_allowed {u : State} (hs : s.Wf) (fits : 8 * n ≤ Xlen s)
    (held : s.resvValid = true ∧ s.resvAddr = s.getX rs1)
    (allowed : Allowed s (s.getX rs1).toNat n) (sc : s.storeConditional n rd rs1 rs2 = u) :
    Stored s u (s.getX rs1).toNat n (xv s rs2) ∧
      WritesX { s with mem := u.mem, resvValid := false } u 4 rd 0 := by
  obtain ⟨t, write⟩ := exists_memWrite_of_allowed (s.getX rs2) allowed
  have stored := stored_of_memWrite hs write
  rw [storeConditional_of_memWrite held write, (memWrite_frame write).1] at sc
  have mem : u.mem = t.mem := sc ▸ retX_mem ..
  refine ⟨(stored_setWidth_iff fits).2 (stored_of_mem_eq mem stored), ?_⟩
  rw [mem, ← sc]
  exact retX_writesX (BitVec.setWidth_zero ..).symm

theorem isStoreConditional_of_exec (hs : s.Wf) (fits : 8 * n ≤ Xlen s)
    (runs : exec i s = .next (s.storeConditional n rd rs1 rs2)) :
    IsStoreConditional i s n rd rs1 rs2 := by
  unfold IsStoreConditional
  rw [toNat_xv hs]
  refine ⟨fun held allowed => ⟨_, runs, storeConditional_of_allowed hs fits held allowed rfl⟩,
    fun held denied => ⟨_, runs, storeConditional_of_denied held denied⟩,
    fun lost => ⟨_, runs, ?_⟩⟩
  rw [storeConditional_of_not_held lost]
  exact retX_writesX (one_setWidth_bits _).symm

/-! ### Read-modify-write (R310, R315 to R332) -/

section Updates
variable {op : BitVec (8 * n) → BitVec (8 * n) → BitVec (8 * n)}

theorem amo_of_denied (denied : Denied s (s.getX rs1).toNat n) :
    s.amo n op rd rs1 rs2 = s.trap .storeAccess := by
  rw [State.amo, memRead_eq_none_iff_denied.2 denied]

/-- An allowed read-modify-write is its memory write and the value read before in x[rd]. -/
theorem amo_of_allowed {new : BitVec (8 * n)} {ret : BitVec (Xlen s)} {u : State} (hs : s.Wf)
    (allowed : Allowed s (s.getX rs1).toNat n)
    (newValue : op (loaded s (s.getX rs1).toNat n) ((s.getX rs2).setWidth (8 * n)) = new)
    (retValue : xsext s.cfg.xlen (loaded s (s.getX rs1).toNat n) = ret.setWidth 64)
    (amo : s.amo n op rd rs1 rs2 = u) :
    Stored s u (s.getX rs1).toNat n new ∧ SetsX { s with mem := u.mem } u rd ret (after s 4) := by
  obtain ⟨t, write⟩ := exists_memWrite_of_allowed new allowed
  have stored := stored_of_memWrite hs write
  simp only [State.amo, memRead_of_allowed allowed, newValue, write] at amo
  rw [(memWrite_frame write).1] at amo
  have mem : u.mem = t.mem := amo ▸ retX_mem ..
  refine ⟨stored_of_mem_eq mem stored, ?_⟩
  rw [mem, ← amo]
  exact retX_writesX retValue

theorem updates_of_exec {new : BitVec (8 * n)} {ret : BitVec (Xlen s)} (hs : s.Wf)
    (runs : exec i s = .next (s.amo n op rd rs1 rs2))
    (newValue : op (loaded s (xv s rs1).toNat n) ((s.getX rs2).setWidth (8 * n)) = new)
    (retValue : xsext s.cfg.xlen (loaded s (xv s rs1).toNat n) = ret.setWidth 64) :
    Updates i s (xv s rs1).toNat n rd new ret := by
  rw [toNat_xv hs] at newValue retValue ⊢
  exact ⟨fun allowed => ⟨_, runs, amo_of_allowed hs allowed newValue retValue rfl⟩,
    fun denied => ⟨_, runs, amo_of_denied denied⟩⟩

end Updates

theorem updates_word_of_exec {op : BitVec 32 → BitVec 32 → BitVec 32} {new : BitVec 32} (hs : s.Wf)
    (runs : exec i s = .next (s.amo 4 op rd rs1 rs2))
    (newValue : op (loaded s (xv s rs1).toNat 4) (lo32 s rs2) = new) :
    Updates i s (xv s rs1).toNat 4 rd new
      (BitVec.signExtend (Xlen s) (loaded s (xv s rs1).toNat 4)) :=
  updates_of_exec hs runs newValue rfl

theorem updates_doubleword_of_exec {op : BitVec 64 → BitVec 64 → BitVec 64} {new : BitVec 64}
    (hs : s.Wf) (rv64 : s.cfg.xlen = .rv64)
    (runs : exec i s = .next (onlyAt .rv64 4 s (s.amo 8 op rd rs1 rs2)))
    (newValue : op (loaded s (xv s rs1).toNat 8) (s.getX rs2) = new) :
    Updates i s (xv s rs1).toNat 8 rd new
      (BitVec.setWidth (Xlen s) (loaded s (xv s rs1).toNat 8)) := by
  rw [onlyAt_eq rv64] at runs
  exact updates_of_exec hs runs ((congrArg (op _) (BitVec.setWidth_eq _)).trans newValue)
    (xsext_of_rv64 rv64 _)

end Atomics

end Sys2Proof.Machine

namespace Sys2Proof.Proofs

open Sys2Proof.Machine

/-- Settles O39: both are the shared load-reserved; the doubleword has no bits to be extended by. -/
theorem loadReserved : Obligations.LoadReserved := by
  intro s rd rs1 rs2 aq rl hs a u
  refine ⟨fun allowed => ?word, fun denied => ?wordDenied, fun rv64 allowed => ?doubleword,
    fun rv64 denied => ?doublewordDenied⟩
  case word => exact ⟨_, rfl, loadReserved_writesX hs allowed rfl⟩
  case wordDenied => exact ⟨_, rfl, loadReserved_of_denied hs denied⟩
  case doubleword =>
    exact ⟨_, congrArg Host.Outcome.next (onlyAt_eq rv64),
      loadReserved_writesX hs allowed (xsext_of_rv64 rv64 _)⟩
  case doublewordDenied =>
    exact ⟨_, congrArg Host.Outcome.next (onlyAt_eq rv64), loadReserved_of_denied hs denied⟩

/-- Settles O40: both are the shared store-conditional, and XLEN holds the bytes they store. -/
theorem storeConditional : Obligations.StoreConditional := by
  intro s rd rs1 rs2 aq rl hs
  refine ⟨?word, fun rv64 => ?doubleword⟩
  case word => exact isStoreConditional_of_exec hs (thirtyTwo_le_bits _) rfl
  case doubleword =>
    have doubleword : 8 * 8 ≤ Claim.Xlen s := (congrArg XLen.bits rv64).ge
    exact isStoreConditional_of_exec hs doubleword (congrArg Host.Outcome.next (onlyAt_eq rv64))

/-- Settles O41: each instruction is the shared read-modify-write with its own operation; the minima
and maxima need their comparison in integers. -/
theorem atomicUpdates : Obligations.AtomicUpdates := by
  intro s rd rs1 rs2 aq rl hs a ow bw od bd word dbl
  refine ⟨?swap, ?add, ?xor, ?and, ?or, ?min, ?max, ?minu, ?maxu, fun rv64 =>
    ⟨?swapD, ?addD, ?xorD, ?andD, ?orD, ?minD, ?maxD, ?minuD, ?maxuD⟩⟩
  case swap | add | xor | and | or => exact updates_word_of_exec hs rfl rfl
  case min => exact updates_word_of_exec hs rfl (amoMin_eq ow bw)
  case max => exact updates_word_of_exec hs rfl (amoMax_eq ow bw)
  case minu => exact updates_word_of_exec hs rfl (amoMinu_eq ow bw)
  case maxu => exact updates_word_of_exec hs rfl (amoMaxu_eq ow bw)
  case swapD | addD | xorD | andD | orD => exact updates_doubleword_of_exec hs rv64 rfl rfl
  case minD => exact updates_doubleword_of_exec hs rv64 rfl (amoMin_eq od bd)
  case maxD => exact updates_doubleword_of_exec hs rv64 rfl (amoMax_eq od bd)
  case minuD => exact updates_doubleword_of_exec hs rv64 rfl (amoMinu_eq od bd)
  case maxuD => exact updates_doubleword_of_exec hs rv64 rfl (amoMaxu_eq od bd)

end Sys2Proof.Proofs
end

section
/-! PROOF. Instructions that write an FP register, in the words of the claims (47_float_single R340,
R380, R381, R391 to R395, 48_float_double R420, R421, R431 to R435): the write into either bank, the
NaN that FP_NAN chooses, and sign injection as a concatenation of bits. -/

namespace Sys2Proof.Machine

open Sys2Proof.Claim

/-! ### Writes into the FP banks (R340) -/

section Writes
variable {i : Instr} {s : State} {rd : RegIx}

theorem setS_advance_writesS (len : Nat) (v : BitVec 32) :
    WritesS s ((s.setS rd v).advance len) len rd v := by
  refine ⟨(getS_setS s rd rd v).trans (if_pos rfl), fun r other => ?_, ?_, rfl⟩
  · exact (getS_setS s rd r v).trans (if_neg other)
  · exact congrArg State.pc (advance_eq_after (s.setS rd v) len)

theorem setD_advance_writesD (len : Nat) (v : BitVec 64) :
    WritesD s ((s.setD rd v).advance len) len rd v := by
  refine ⟨(getD_setD s rd rd v).trans (if_pos rfl), fun r other => ?_, ?_, rfl⟩
  · exact (getD_setD s rd r v).trans (if_neg other)
  · exact congrArg State.pc (advance_eq_after (s.setD rd v) len)

/-! ### Loads (R380, R420) -/

section Loads
variable {rs1 : RegIx} {imm : BitVec 12} {len : Nat}

theorem loadS_writesS (allowed : Allowed s (ea s rs1 imm) 4) :
    WritesS s (s.loadS len rd rs1 imm) len rd (loaded s (ea s rs1 imm) 4) := by
  rw [← toNat_ea] at allowed ⊢
  rw [State.loadS, memRead_of_allowed allowed]
  exact setS_advance_writesS len _

theorem loadD_writesD (allowed : Allowed s (ea s rs1 imm) 8) :
    WritesD s (s.loadD len rd rs1 imm) len rd (loaded s (ea s rs1 imm) 8) := by
  rw [← toNat_ea] at allowed ⊢
  rw [State.loadD, memRead_of_allowed allowed]
  exact setD_advance_writesD len _

theorem loadS_of_denied (denied : Denied s (ea s rs1 imm) 4) :
    s.loadS len rd rs1 imm = s.trap .loadAccess := by
  rw [← toNat_ea] at denied
  rw [State.loadS, memRead_eq_none_iff_denied.2 denied]

theorem loadD_of_denied (denied : Denied s (ea s rs1 imm) 8) :
    s.loadD len rd rs1 imm = s.trap .loadAccess := by
  rw [← toNat_ea] at denied
  rw [State.loadD, memRead_eq_none_iff_denied.2 denied]

end Loads

/-! ### Results, and the NaN that stands for none (R343) -/

theorem fIsNan_canonicalNan {n : Nat} {F : Fmt} (format : IsFormat n F) :
    fIsNan F (canonicalNan n F) = true := by
  rcases format with ⟨rfl, rfl⟩ | ⟨rfl, rfl⟩
  · decide
  · decide

theorem fIsNan_asNan {n : Nat} {F : Fmt} (format : IsFormat n F) (b : BitVec n) :
    fIsNan F (asNan F b) = true := by
  by_cases nan : fIsNan F b = true
  · rw [asNan, if_pos nan, nan]
  · rw [asNan, if_neg nan, fIsNan_canonicalNan format]

theorem isResult32_getD (s : State) (r : Option (BitVec 32)) : IsResult32 s r (r.getD s.nan32) := by
  cases r with
  | some u => rfl
  | none =>
    cases policy : s.cfg.fpNan
    case canonical =>
      simp only [IsResult32, Option.getD_none, State.nan32, policy]
      rfl
    case any =>
      simp only [IsResult32, Option.getD_none, State.nan32, policy]
      exact fIsNan_asNan (.inl ⟨rfl, rfl⟩) _

theorem isResult64_getD (s : State) (r : Option (BitVec 64)) : IsResult64 s r (r.getD s.nan64) := by
  cases r with
  | some u => rfl
  | none =>
    cases policy : s.cfg.fpNan
    case canonical =>
      simp only [IsResult64, Option.getD_none, State.nan64, policy]
      rfl
    case any =>
      simp only [IsResult64, Option.getD_none, State.nan64, policy]
      exact fIsNan_asNan (.inr ⟨rfl, rfl⟩) _

theorem returnsS_of_exec {r : Option (BitVec 32)} (runs : exec i s = .next (s.retS rd r)) :
    ReturnsS i s rd r :=
  ⟨_, runs, _, isResult32_getD s r, setS_advance_writesS 4 _⟩

theorem returnsD_of_exec {r : Option (BitVec 64)} (runs : exec i s = .next (s.retD rd r)) :
    ReturnsD i s rd r :=
  ⟨_, runs, _, isResult64_getD s r, setD_advance_writesD 4 _⟩

theorem runs_writesS_of_exec {u v : BitVec 32} (runs : exec i s = .next (s.retS rd (some u)))
    (value : u = v) : Runs i s (WritesS s · 4 rd v) :=
  ⟨_, runs, value ▸ setS_advance_writesS 4 u⟩

theorem runs_writesD_of_exec {u v : BitVec 64} (runs : exec i s = .next (s.retD rd (some u)))
    (value : u = v) : Runs i s (WritesD s · 4 rd v) :=
  ⟨_, runs, value ▸ setD_advance_writesD 4 u⟩

end Writes

/-! ### Sign injection (R391 to R393) -/

theorem getLsbD_fWithSign {n k : Nat} (F : Fmt) (b : BitVec n) (neg : Bool) (inside : k < n) :
    (fWithSign F b neg).getLsbD k = if fSignPos F = k then neg else b.getLsbD k := by
  have mask : (BitVec.ofNat n (2 ^ fSignPos F)).getLsbD k = decide (fSignPos F = k) := by
    rw [BitVec.getLsbD_ofNat, Nat.testBit_two_pow, decide_eq_true inside, Bool.true_and]
  rw [fWithSign]
  cases neg
  case false =>
    rw [if_neg Bool.false_ne_true, BitVec.getLsbD_and, BitVec.getLsbD_not, mask]
    by_cases sign : fSignPos F = k <;> simp [sign, inside]
  case true =>
    rw [if_pos rfl, BitVec.getLsbD_or, mask]
    by_cases sign : fSignPos F = k <;> simp [sign]

section SignInjection
variable {w : Nat} {F : Fmt} (signBit : fSignPos F = w) (a b : BitVec (1 + w))
include signBit

theorem ofBool_fSign : BitVec.ofBool (fSign F b) = b.extractLsb' w 1 := by
  ext k hk
  have lowest : k = 0 := by omega
  simp [fSign, signBit, lowest]

theorem fWithSign_eq_append (neg : Bool) :
    fWithSign F a neg = BitVec.ofBool neg ++ a.extractLsb' 0 w := by
  ext k hk
  rw [← BitVec.getLsbD_eq_getElem, getLsbD_fWithSign F a neg hk, BitVec.getElem_append, signBit]
  by_cases magnitude : k < w
  · simp [magnitude, magnitude.ne']
  · have sign : k = w := by omega
    simp [sign]

theorem fSgnj_eq_append : fSgnj F a b = b.extractLsb' w 1 ++ a.extractLsb' 0 w := by
  rw [fSgnj, fWithSign_eq_append signBit, ofBool_fSign signBit]

theorem fSgnjn_eq_append : fSgnjn F a b = ~~~(b.extractLsb' w 1) ++ a.extractLsb' 0 w := by
  rw [fSgnjn, fWithSign_eq_append signBit, ← BitVec.not_ofBool, ofBool_fSign signBit]

theorem fSgnjx_eq_append :
    fSgnjx F a b = (a.extractLsb' w 1 ^^^ b.extractLsb' w 1) ++ a.extractLsb' 0 w := by
  rw [fSgnjx, fWithSign_eq_append signBit, Bool.bne_eq_xor, ← BitVec.ofBool_xor_ofBool,
    ofBool_fSign signBit, ofBool_fSign signBit]

end SignInjection

end Sys2Proof.Machine

namespace Sys2Proof.Proofs

open Sys2Proof.Machine

/-- Settles O36: a load is a read and a write of its bank, a store the shared store of the register's
pattern. -/
theorem floatLoadsAndStores : Obligations.FloatLoadsAndStores := by
  intro s r rs1 imm hs a
  refine ⟨fun allowed => ?flw, fun allowed => ?fld, fun denied => ?flwDenied, fun denied => ?fldDenied,
    ?fsw, ?fsd⟩
  case flw => exact ⟨_, rfl, loadS_writesS allowed⟩
  case fld => exact ⟨_, rfl, loadD_writesD allowed⟩
  case flwDenied => exact ⟨_, rfl, loadS_of_denied denied⟩
  case fldDenied => exact ⟨_, rfl, loadD_of_denied denied⟩
  case fsw | fsd => exact storesAt_of_exec hs rfl

/-- Settles O44: sign injection is a concatenation, the sign of each kind read as one bit; FMIN and FMAX
return the shared choice. -/
theorem signInjectionMinimumAndMaximum : Obligations.SignInjectionMinimumAndMaximum := by
  intro s rd rs1 rs2 a b d e
  refine ⟨?sgnjS, ?sgnjnS, ?sgnjxS, ?minS, ?maxS, ?sgnjD, ?sgnjnD, ?sgnjxD, ?minD, ?maxD⟩
  case minS | maxS => exact returnsS_of_exec rfl
  case minD | maxD => exact returnsD_of_exec rfl
  case sgnjS => exact runs_writesS_of_exec rfl (fSgnj_eq_append (w := 31) rfl a b)
  case sgnjnS => exact runs_writesS_of_exec rfl (fSgnjn_eq_append (w := 31) rfl a b)
  case sgnjxS => exact runs_writesS_of_exec rfl (fSgnjx_eq_append (w := 31) rfl a b)
  case sgnjD => exact runs_writesD_of_exec rfl (fSgnj_eq_append (w := 63) rfl d e)
  case sgnjnD => exact runs_writesD_of_exec rfl (fSgnjn_eq_append (w := 63) rfl d e)
  case sgnjxD => exact runs_writesD_of_exec rfl (fSgnjx_eq_append (w := 63) rfl d e)

end Sys2Proof.Proofs
end

section
/-! PROOF. The class mask (47_float_single R349): one bit, and where it stands. -/

namespace Sys2Proof.Machine

open Sys2Proof.Claim

theorem fExp_le_fMaxExp {n : Nat} (F : Fmt) (b : BitVec n) : fExp F b ≤ fMaxExp F :=
  Nat.le_sub_one_of_lt (BitVec.isLt _)

theorem fMaxExp_pos {n : Nat} {F : Fmt} (format : IsFormat n F) : 0 < fMaxExp F := by
  rcases format with ⟨-, rfl⟩ | ⟨-, rfl⟩
  · decide
  · decide

theorem getLsbD_fClass {n k : Nat} (F : Fmt) (a : BitVec n) (inside : k < 10) :
    (fClass F a).getLsbD k = true ↔ fClassBit F a = k := by
  rw [fClass, ← BitVec.twoPow_eq, BitVec.getLsbD_twoPow, Bool.and_eq_true, decide_eq_true_iff,
    decide_eq_true_iff]
  exact ⟨And.right, fun place => ⟨place ▸ inside, place⟩⟩

/-! ### The place of the bit: for an exponent field of zeros, of ones, and between -/

theorem fClassBit_of_fExp_eq_zero {n : Nat} {F : Fmt} {a : BitVec n} (format : IsFormat n F)
    (zero : fExp F a = 0) :
    fClassBit F a =
      if fFrac F a = 0 then (if fSign F a then 3 else 4) else (if fSign F a then 2 else 5) := by
  have notMax : (0 : Nat) ≠ fMaxExp F := (fMaxExp_pos format).ne
  by_cases fraction : fFrac F a = 0 <;>
    simp [fClassBit, fIsNan, fIsInf, fIsZero, fIsSubnormal, zero, notMax, fraction]

theorem fClassBit_of_fExp_eq_max {n : Nat} {F : Fmt} {a : BitVec n} (max : fExp F a = fMaxExp F) :
    fClassBit F a =
      if fFrac F a = 0 then (if fSign F a then 0 else 7) else (if fSign F a then 8 else 9) := by
  by_cases fraction : fFrac F a = 0 <;> simp [fClassBit, fIsNan, fIsInf, max, fraction]

theorem fClassBit_of_normal {n : Nat} {F : Fmt} {a : BitVec n} (nonzero : fExp F a ≠ 0)
    (notMax : fExp F a ≠ fMaxExp F) : fClassBit F a = if fSign F a then 1 else 6 := by
  simp [fClassBit, fIsNan, fIsInf, fIsZero, fIsSubnormal, nonzero, notMax]

end Sys2Proof.Machine

namespace Sys2Proof.Proofs

open Sys2Proof.Machine

/-- Settles O55: by exponent field (zeros, ones, between), fraction and sign, each class has its own
place. -/
theorem classMask : Obligations.ClassMask := by
  intro n F a format
  have ones : 2 ^ F.expBits - 1 = fMaxExp F := rfl
  have onesPos : 0 < fMaxExp F := fMaxExp_pos format
  have atMost : fExp F a ≤ fMaxExp F := fExp_le_fMaxExp F a
  simp only [ones, getLsbD_fClass, Nat.reduceLT]
  have exponent : fExp F a = 0 ∨ fExp F a = fMaxExp F ∨ (0 < fExp F a ∧ fExp F a < fMaxExp F) := by
    omega
  rcases exponent with zero | max | ⟨positive, below⟩
  case inl =>
    rw [fClassBit_of_fExp_eq_zero format zero, zero]
    by_cases fraction : fFrac F a = 0 <;> by_cases sign : fSign F a = true <;>
      simp [fraction, sign, onesPos.ne]
  case inr.inl =>
    rw [fClassBit_of_fExp_eq_max max, max]
    by_cases fraction : fFrac F a = 0 <;> by_cases sign : fSign F a = true <;>
      simp [fraction, sign, onesPos.ne']
  case inr.inr =>
    rw [fClassBit_of_normal positive.ne' below.ne]
    by_cases sign : fSign F a = true <;> simp [sign, positive, positive.ne', below, below.ne]

end Sys2Proof.Proofs
end

section
/-! PROOF. Rounding to an integer (47_float_single R342, R350): the rounded magnitude against the exact
quotient, the same with a sign, the exact value of a finite pattern, and saturation. -/

namespace Sys2Proof.Machine

open Sys2Proof.Claim

/-! ### The magnitude: `num / den` rounded to an integer (R342) -/

/-- R342 on the exact fraction `f` by which a magnitude exceeds the integer below it, which is odd or
not: the magnitude rounds up to the next integer. -/
def RoundsUpAt (m : RMode) (neg odd : Bool) (f : ℚ) : Prop :=
  match m with
  | .rne => 1 / 2 < f ∨ (f = 1 / 2 ∧ odd = true)
  | .rtz => False
  | .rdn => neg = true ∧ f ≠ 0
  | .rup => neg = false ∧ f ≠ 0
  | .rmm => 1 / 2 ≤ f

theorem roundsUp_iff (m : RMode) (neg odd : Bool) (r : Nat) {d : Nat} (positive : 0 < d) :
    roundsUp m neg odd r d = true ↔ RoundsUpAt m neg odd ((r : ℚ) / d) := by
  have castPos : (0 : ℚ) < d := by exact_mod_cast positive
  have half_lt : (1 / 2 : ℚ) < r / d ↔ d < 2 * r := by
    rw [div_lt_div_iff₀ two_pos castPos]
    norm_cast
    omega
  have eq_half : (r / d : ℚ) = 1 / 2 ↔ 2 * r = d := by
    rw [div_eq_div_iff castPos.ne' two_ne_zero]
    norm_cast
    omega
  have half_le : (1 / 2 : ℚ) ≤ r / d ↔ d ≤ 2 * r := by
    rw [div_le_div_iff₀ two_pos castPos]
    norm_cast
    omega
  have ne_zero : (r / d : ℚ) ≠ 0 ↔ r ≠ 0 := by simp [castPos.ne']
  cases m
  case rne =>
    simp only [roundsUp, RoundsUpAt, half_lt, eq_half]
    simp
  case rtz => simp [roundsUp, RoundsUpAt]
  case rdn | rup =>
    simp only [roundsUp, RoundsUpAt, ne_zero]
    simp
  case rmm => simp only [roundsUp, RoundsUpAt, half_le, decide_eq_true_iff]

section Magnitude
variable (m : RMode) (neg : Bool) (num : Nat) {den : Nat} (positive : 0 < den)
include positive

/-- The exact quotient is an integer `q` and a fraction `f`, and is rounded to `q` or to `q + 1` as R342
says of `f`. -/
theorem roundQuot_cases : ∃ (q : Nat) (f : ℚ), (num : ℚ) / den = q + f ∧ 0 ≤ f ∧ f < 1 ∧
    ((RoundsUpAt m neg (q % 2 == 1) f ∧ roundQuot m neg num den = q + 1) ∨
      (¬RoundsUpAt m neg (q % 2 == 1) f ∧ roundQuot m neg num den = q)) := by
  have castPos : (0 : ℚ) < den := by exact_mod_cast positive
  refine ⟨num / den, (num % den : Nat) / (den : ℚ), ?sum, by positivity, ?below, ?rounded⟩
  case sum =>
    rw [eq_comm, ← mul_left_inj' castPos.ne', add_mul, div_mul_cancel₀ _ castPos.ne',
      div_mul_cancel₀ _ castPos.ne']
    exact_mod_cast Nat.div_add_mod' num den
  case below =>
    rw [div_lt_one castPos]
    exact_mod_cast Nat.mod_lt num positive
  case rounded =>
    rw [← roundsUp_iff _ _ _ _ positive, roundQuot]
    split
    case isTrue up => exact .inl ⟨up, rfl⟩
    case isFalse down => exact .inr ⟨down, rfl⟩

theorem roundQuot_rdn_of_neg : (roundQuot .rdn true num den : Int) = ⌈(num : ℚ) / den⌉ := by
  obtain ⟨q, f, exact, nonneg, below, ⟨⟨-, nonzero⟩, rounded⟩ | ⟨down, rounded⟩⟩ :=
    roundQuot_cases .rdn true num positive
  · have fracPos : 0 < f := lt_of_le_of_ne nonneg nonzero.symm
    rw [rounded, exact, eq_comm, Int.ceil_eq_iff]
    push_cast
    constructor <;> linarith
  · have zero : f = 0 := by simpa [RoundsUpAt] using down
    rw [rounded, exact, zero, add_zero, Int.ceil_natCast]

/-- RUP of a positive number rounds its magnitude as RDN rounds that of a negative one. -/
theorem roundQuot_rup_of_nonneg : (roundQuot .rup false num den : Int) = ⌈(num : ℚ) / den⌉ :=
  roundQuot_rdn_of_neg num positive

theorem abs_roundQuot_sub_le (nearest : m = .rne ∨ m = .rmm) :
    |(roundQuot m neg num den : ℚ) - num / den| ≤ 1 / 2 := by
  obtain ⟨q, f, exact, nonneg, below, ⟨up, rounded⟩ | ⟨down, rounded⟩⟩ :=
    roundQuot_cases m neg num positive
  · have half_le : 1 / 2 ≤ f := by
      rcases nearest with rfl | rfl
      · exact up.elim le_of_lt fun tie => tie.1.ge
      · exact up
    rw [rounded, exact, abs_le]
    push_cast
    constructor <;> linarith
  · have le_half : f ≤ 1 / 2 := by
      rcases nearest with rfl | rfl
      · exact not_lt.1 fun above => down (.inl above)
      · exact (not_le.1 down).le
    rw [rounded, exact, abs_le]
    constructor <;> linarith

/-- A magnitude is rounded by 1/2 only where it lies half way between two integers. -/
theorem roundQuot_of_tie (tie : |(roundQuot m neg num den : ℚ) - num / den| = 1 / 2) :
    (m = .rne → roundQuot m neg num den % 2 = 0) ∧
    (m = .rmm → (num : ℚ) / den < roundQuot m neg num den) := by
  obtain ⟨q, f, exact, nonneg, below, ⟨up, rounded⟩ | ⟨down, rounded⟩⟩ :=
    roundQuot_cases m neg num positive
  · have half : f = 1 / 2 := by
      rw [rounded, exact, abs_of_nonneg (by push_cast; linarith)] at tie
      push_cast at tie
      linarith
    rw [rounded, exact]
    constructor
    · rintro rfl
      have odd : q % 2 = 1 := by simpa [RoundsUpAt, half] using up
      omega
    · rintro -
      push_cast
      linarith
  · have half : f = 1 / 2 := by
      rw [rounded, exact, abs_of_nonpos (by linarith)] at tie
      linarith
    rw [rounded]
    constructor
    · rintro rfl
      have even : q % 2 ≠ 1 := by simpa [RoundsUpAt, half] using down
      omega
    · rintro rfl
      exact absurd half.ge down

end Magnitude

/-! ### With a sign -/

/-- A magnitude under a sign. -/
def withSign {α : Type} [Neg α] (neg : Bool) (v : α) : α := if neg then -v else v

theorem natCast_div_eq_floor (num den : Nat) : ((num / den : Nat) : Int) = ⌊(num : ℚ) / den⌋ := by
  rw [Rat.floor_natCast_div_natCast, Int.natCast_div]

section WithSign
variable (m : RMode) (neg : Bool) (num : Nat) {den : Nat}

theorem abs_withSign {α : Type} [Lattice α] [AddGroup α] (v : α) : |withSign neg v| = |v| := by
  cases neg
  · rfl
  · exact abs_neg v

theorem abs_withSign_sub_withSign (k : Int) (v : ℚ) :
    |((withSign neg k : Int) : ℚ) - withSign neg v| = |(k : ℚ) - v| := by
  cases neg
  case false => rfl
  case true =>
    rw [withSign, withSign, if_pos rfl, if_pos rfl, Int.cast_neg, neg_sub_neg, abs_sub_comm]

theorem withSign_roundQuot_rdn (positive : 0 < den) :
    withSign neg (roundQuot .rdn neg num den : Int) = ⌊withSign neg ((num : ℚ) / den)⌋ := by
  cases neg
  case false => exact natCast_div_eq_floor num den
  case true => exact (congrArg Neg.neg (roundQuot_rdn_of_neg num positive)).trans Int.floor_neg.symm

theorem withSign_roundQuot_rup (positive : 0 < den) :
    withSign neg (roundQuot .rup neg num den : Int) = ⌈withSign neg ((num : ℚ) / den)⌉ := by
  cases neg
  case false => exact roundQuot_rup_of_nonneg num positive
  case true => exact (congrArg Neg.neg (natCast_div_eq_floor num den)).trans Int.ceil_neg.symm

theorem withSign_roundQuot_rtz (den : Nat) :
    withSign neg (roundQuot .rtz neg num den : Int) =
      if 0 ≤ withSign neg ((num : ℚ) / den) then ⌊withSign neg ((num : ℚ) / den)⌋
      else ⌈withSign neg ((num : ℚ) / den)⌉ := by
  have nonneg : (0 : ℚ) ≤ num / den := by positivity
  cases neg
  case false => exact (natCast_div_eq_floor num den).trans (if_pos nonneg).symm
  case true =>
    change -((num / den : Nat) : Int) = if 0 ≤ -((num : ℚ) / den) then ⌊-((num : ℚ) / den)⌋
      else ⌈-((num : ℚ) / den)⌉
    rw [natCast_div_eq_floor, ← Int.ceil_neg]
    split
    case isTrue nonpos =>
      rw [le_antisymm (neg_nonneg.1 nonpos) nonneg, neg_zero, Int.ceil_zero, Int.floor_zero]
    case isFalse => rfl

theorem abs_withSign_roundQuot_sub_le (positive : 0 < den) (nearest : m = .rne ∨ m = .rmm) :
    |((withSign neg (roundQuot m neg num den : Int) : Int) : ℚ) - withSign neg ((num : ℚ) / den)| ≤
      1 / 2 := by
  rw [abs_withSign_sub_withSign]
  exact abs_roundQuot_sub_le m neg num positive nearest

theorem withSign_roundQuot_of_tie (positive : 0 < den)
    (tie : |((withSign neg (roundQuot m neg num den : Int) : Int) : ℚ) - withSign neg ((num : ℚ) / den)| =
      1 / 2) :
    (m = .rne → withSign neg (roundQuot m neg num den : Int) % 2 = 0) ∧
    (m = .rmm → |withSign neg ((num : ℚ) / den)| <
      |((withSign neg (roundQuot m neg num den : Int) : Int) : ℚ)|) := by
  rw [abs_withSign_sub_withSign] at tie
  obtain ⟨even, away⟩ := roundQuot_of_tie m neg num positive tie
  refine ⟨fun rne => ?_, fun rmm => ?_⟩
  · have := even rne
    cases neg <;> simp only [withSign] <;> omega
  · have nonneg : (0 : ℚ) ≤ num / den := by positivity
    rw [← Int.cast_abs, abs_withSign, abs_withSign, abs_of_nonneg nonneg, Int.cast_abs]
    exact (away rmm).trans_le (le_abs_self _)

end WithSign

/-! ### The exact value of a finite pattern (R341) -/

theorem scaleQuot_den_pos (num : Nat) {den : Nat} (positive : 0 < den) (e : Int) :
    0 < (scaleQuot num den e).2 := by
  cases e
  case ofNat k => exact positive
  case negSucc k => exact Nat.mul_pos positive (Nat.two_pow_pos _)

theorem scaleQuot_div (num den : Nat) (e : Int) :
    ((scaleQuot num den e).1 : ℚ) / (scaleQuot num den e).2 = num / den * 2 ^ e := by
  cases e
  case ofNat k =>
    change ((num * 2 ^ k : Nat) : ℚ) / den = num / den * 2 ^ (k : Int)
    rw [zpow_natCast, Nat.cast_mul, Nat.cast_pow, Nat.cast_ofNat, mul_div_right_comm]
  case negSucc k =>
    change (num : ℚ) / (den * 2 ^ (k + 1) : Nat) = num / den * 2 ^ (Int.negSucc k)
    rw [zpow_negSucc, Nat.cast_mul, Nat.cast_pow, Nat.cast_ofNat, ← div_div, div_eq_mul_inv _ (2 ^ _)]

theorem cast_fBias (F : Fmt) : (fBias F : Int) = emax F := by
  rw [fBias, emax, Nat.cast_sub Nat.one_le_two_pow]
  norm_cast

theorem val_eq_withSign {n : Nat} (F : Fmt) (a : BitVec n) :
    val F a = withSign (fSign F a) ((fSig F a : ℚ) * 2 ^ fPow F a) := by
  have magnitude : (if fExp F a = 0 then (fFrac F a : ℚ) * 2 ^ (1 - emax F - F.fracBits)
      else (2 ^ F.fracBits + fFrac F a : ℚ) * 2 ^ ((fExp F a : Int) - emax F - F.fracBits)) =
      (fSig F a : ℚ) * 2 ^ fPow F a := by
    rw [fSig, fPow, fMinExp, cast_fBias, fPrec]
    split
    case isTrue zero =>
      rw [zero]
      congr 2
      push_cast
      omega
    case isFalse nonzero =>
      rw [max_eq_left (Nat.one_le_iff_ne_zero.2 nonzero)]
      push_cast
      congr 2
      omega
  rw [val, magnitude]
  cases fSign F a
  · exact one_mul _
  · exact neg_one_mul _

theorem fToIntExact_eq_withSign {n : Nat} (F : Fmt) (m : RMode) (a : BitVec n) :
    fToIntExact F m a = withSign (fSign F a) (roundQuot m (fSign F a)
      (scaleQuot (fSig F a) 1 (fPow F a)).1 (scaleQuot (fSig F a) 1 (fPow F a)).2 : Int) :=
  rfl

theorem val_eq_withSign_scaleQuot {n : Nat} (F : Fmt) (a : BitVec n) :
    val F a = withSign (fSign F a) (((scaleQuot (fSig F a) 1 (fPow F a)).1 : ℚ) /
      (scaleQuot (fSig F a) 1 (fPow F a)).2) := by
  rw [val_eq_withSign, scaleQuot_div, Nat.cast_one, div_one]

/-! ### Saturation (R350) -/

/-- The integer an N-bit result stands for. -/
def intValue {N : Nat} (sgn : Bool) (b : BitVec N) : Int := if sgn then b.toInt else b.toNat

theorem intLo_le_intHi (N : Nat) (sgn : Bool) : intLo N sgn ≤ intHi N sgn := by
  cases sgn
  case false =>
    have full : (1 : Int) ≤ 2 ^ N := one_le_pow₀ one_le_two
    change 0 ≤ (2 : Int) ^ N - 1
    omega
  case true =>
    have half : (1 : Int) ≤ 2 ^ (N - 1) := one_le_pow₀ one_le_two
    change -(2 : Int) ^ (N - 1) ≤ 2 ^ (N - 1) - 1
    omega

section Saturation
variable {N : Nat} (sgn : Bool) (width : 0 < N)
include width

theorem intValue_ofInt {v : Int} (lower : intLo N sgn ≤ v) (upper : v ≤ intHi N sgn) :
    intValue sgn (BitVec.ofInt N v) = v := by
  cases sgn
  case false =>
    change 0 ≤ v at lower
    change v ≤ 2 ^ N - 1 at upper
    change ((BitVec.ofInt N v).toNat : Int) = v
    rw [BitVec.toNat_ofInt, Nat.cast_pow, Nat.cast_ofNat, Int.emod_eq_of_lt lower (by omega),
      Int.toNat_of_nonneg lower]
  case true => exact BitVec.toInt_ofInt_eq_self width lower (Int.lt_of_le_sub_one upper)

variable {n : Nat} {F : Fmt} (m : RMode) {a : BitVec n}

theorem intValue_fToInt_of_nan (nan : fIsNan F a = true) :
    intValue sgn (fToInt F m a N sgn) = intHi N sgn := by
  rw [fToInt, if_pos nan, intValue_ofInt sgn width (intLo_le_intHi N sgn) le_rfl]

theorem intValue_fToInt_of_inf (inf : fIsInf F a = true) :
    intValue sgn (fToInt F m a N sgn) = if fSign F a then intLo N sgn else intHi N sgn := by
  have notNan : ¬fIsNan F a = true := by
    simp only [fIsInf, fIsNan, Bool.and_eq_true, beq_iff_eq] at inf ⊢
    simp [inf.2]
  have ordered := intLo_le_intHi N sgn
  rw [fToInt, if_neg notNan, if_pos inf]
  cases fSign F a
  · exact intValue_ofInt sgn width ordered le_rfl
  · exact intValue_ofInt sgn width le_rfl ordered

theorem intValue_fToInt_of_finite (finite : Finite F a) :
    intValue sgn (fToInt F m a N sgn) =
      if intHi N sgn < fToIntExact F m a then intHi N sgn
      else if fToIntExact F m a < intLo N sgn then intLo N sgn else fToIntExact F m a := by
  have ordered := intLo_le_intHi N sgn
  rw [fToInt, finite.1, finite.2, if_neg Bool.false_ne_true, if_neg Bool.false_ne_true,
    intValue_ofInt sgn width (by omega) (by omega)]
  omega

end Saturation

end Sys2Proof.Machine

namespace Sys2Proof.Proofs

open Sys2Proof.Machine

/-- Settles O56: the rounded integer is the rounded magnitude under the sign, and so is the exact value;
saturation is the same for either kind of integer. -/
theorem conversionToIntegerRoundsAndSaturates :
    Obligations.ConversionToIntegerRoundsAndSaturates := by
  intro n F m a N format widths sat slo shi uhi gives
  have width : 0 < N := by omega
  refine ⟨fun nan => ?nan, fun inf => ?inf, fun finite => ?finite⟩
  case nan =>
    exact ⟨intValue_fToInt_of_nan true width m nan, intValue_fToInt_of_nan false width m nan⟩
  case inf =>
    exact ⟨intValue_fToInt_of_inf true width m inf, intValue_fToInt_of_inf false width m inf⟩
  case finite =>
    refine ⟨fToIntExact F m a, ⟨intValue_fToInt_of_finite true width m finite,
      intValue_fToInt_of_finite false width m finite⟩, ?_⟩
    have positive := scaleQuot_den_pos (fSig F a) one_pos (fPow F a)
    rw [fToIntExact_eq_withSign, val_eq_withSign_scaleQuot]
    refine ⟨?rdn, ?rup, ?rtz, ?nearest, ?tie⟩
    case rdn =>
      rintro rfl
      exact withSign_roundQuot_rdn _ _ positive
    case rup =>
      rintro rfl
      exact withSign_roundQuot_rup _ _ positive
    case rtz =>
      rintro rfl
      exact withSign_roundQuot_rtz ..
    case nearest => exact abs_withSign_roundQuot_sub_le _ _ _ positive
    case tie => exact withSign_roundQuot_of_tie _ _ _ positive

end Sys2Proof.Proofs
end

section
/-! PROOF. The word operations of RV64 in the words of the claims (49_word_ops R460 to R474): what the
shared operations write at XLEN 64, and the operands as 32-bit values. -/

namespace Sys2Proof.Machine

open Sys2Proof.Claim

/-- At its own XLEN an instruction of one XLEN only is the operation it names. -/
theorem runs_of_onlyAt {i : Instr} {xl : XLen} {len : Nat} {s t : State} {P : State → Prop}
    (here : s.cfg.xlen = xl) (runs : exec i s = .next (onlyAt xl len s t)) (holds : P t) :
    Runs i s P :=
  ⟨t, runs.trans (congrArg Host.Outcome.next (onlyAt_eq here)), holds⟩

/-! ### Operands and results (R460) -/

/-- At XLEN 64 the 64-bit result of a word operation is its 32-bit one extended to XLEN. -/
theorem wbin_of_rv64 {xl : XLen} (rv64 : xl = .rv64)
    (f : {w : Nat} → BitVec w → BitVec w → BitVec w) (a b : Word) :
    wbin f a b = xsext xl (f (a.setWidth 32) (b.setWidth 32)) := by
  subst rv64
  exact (BitVec.setWidth_eq _).symm

/-- ADDIW takes the low word of an immediate extended to 64 bits (R461). -/
theorem setWidth_signExtend_word (imm : BitVec 12) :
    (imm.signExtend 64).setWidth 32 = imm.signExtend 32 := by
  ext i inside
  have wider : i < 64 := by omega
  rw [BitVec.getElem_setWidth, BitVec.getLsbD_eq_getElem wider, BitVec.getElem_signExtend,
    BitVec.getElem_signExtend]

/-- A 5-bit amount passes the mask of a word shift unchanged (R462 to R464). -/
theorem shiftBy_word_shamt (shamt : BitVec 5) :
    shiftBy ((shamt.setWidth 64).setWidth 32) = shamt.toNat := by
  rw [BitVec.setWidth_setWidth_of_le shamt (by decide)]
  exact shiftBy_setWidth_of_lt .rv32 shamt.isLt

/-! ### What the shared operations of 49_word_ops write -/

section Writes
variable {s : State} {len : Nat} {rd rs1 rs2 : RegIx} {r : BitVec 32}
  {f : {w : Nat} → BitVec w → BitVec w → BitVec w}

theorem retX_wbin_writesX (rv64 : s.cfg.xlen = .rv64) {a b : Word}
    (value : f (a.setWidth 32) (b.setWidth 32) = r) :
    WritesX s (s.retX len rd (wbin f a b)) len rd (r.signExtend (Xlen s)) := by
  subst value
  exact retX_writesX (wbin_of_rv64 rv64 f a b)

theorem wordReg_writesX (rv64 : s.cfg.xlen = .rv64) (value : f (lo32 s rs1) (lo32 s rs2) = r) :
    WritesX s (s.wordReg len f rd rs1 rs2) len rd (r.signExtend (Xlen s)) :=
  retX_wbin_writesX rv64 value

theorem wordShift_writesX {shamt : BitVec 5} (rv64 : s.cfg.xlen = .rv64)
    (value : f (lo32 s rs1) ((shamt.setWidth 64).setWidth 32) = r) :
    WritesX s (s.wordShift len f rd rs1 shamt) len rd (r.signExtend (Xlen s)) :=
  retX_wbin_writesX rv64 value

theorem addImmWord_writesX {imm : BitVec 12} (rv64 : s.cfg.xlen = .rv64) :
    WritesX s (s.addImmWord len rd rs1 imm) len rd
      ((lo32 s rs1 + imm.signExtend 32).signExtend (Xlen s)) :=
  retX_wbin_writesX rv64 (congrArg (lo32 s rs1 + ·) (setWidth_signExtend_word imm))

end Writes

end Sys2Proof.Machine

namespace Sys2Proof.Proofs

open Sys2Proof.Machine

/-- Settles O33: each instruction is one shared operation of the low words; the shifts need that their
amounts are taken modulo 32, and the quotients and remainders meet their relations at any width. -/
theorem wordOperationResults : Obligations.WordOperationResults := by
  intro s rd rs1 rs2 imm shamt rv64 w a b writes
  have byImm := shiftBy_word_shamt shamt
  have byReg : shiftBy b = b.toNat % 32 := shiftBy_eq_mod .rv32 b
  refine ⟨?addiw, ?slliw, ?srliw, ?sraiw, ?addw, ?subw, ?sllw, ?srlw, ?sraw, ?mulw, ?divw, ?divuw,
    ?remw, ?remuw⟩
  case addiw => exact runs_of_onlyAt rv64 rfl (addImmWord_writesX rv64)
  case slliw => exact runs_of_onlyAt rv64 rfl (wordShift_writesX rv64 (congrArg (a <<< ·) byImm))
  case srliw => exact runs_of_onlyAt rv64 rfl (wordShift_writesX rv64 (congrArg (a >>> ·) byImm))
  case sraiw =>
    exact runs_of_onlyAt rv64 rfl (wordShift_writesX rv64 (congrArg a.sshiftRight byImm))
  case addw | subw | mulw => exact runs_of_onlyAt rv64 rfl (wordReg_writesX rv64 rfl)
  case sllw => exact runs_of_onlyAt rv64 rfl (wordReg_writesX rv64 (congrArg (a <<< ·) byReg))
  case srlw => exact runs_of_onlyAt rv64 rfl (wordReg_writesX rv64 (congrArg (a >>> ·) byReg))
  case sraw =>
    exact runs_of_onlyAt rv64 rfl (wordReg_writesX rv64 (congrArg a.sshiftRight byReg))
  case divw => exact runs_of_onlyAt rv64 rfl ⟨_, isDiv_divOp a b, wordReg_writesX rv64 rfl⟩
  case divuw => exact runs_of_onlyAt rv64 rfl ⟨_, isDivu_divuOp a b, wordReg_writesX rv64 rfl⟩
  case remw => exact runs_of_onlyAt rv64 rfl ⟨_, isRem_remOp a b, wordReg_writesX rv64 rfl⟩
  case remuw => exact runs_of_onlyAt rv64 rfl ⟨_, isRemu_remuOp a b, wordReg_writesX rv64 rfl⟩

end Sys2Proof.Proofs
end

section
/-! PROOF. An encoded instruction decodes back (30_encoding sections 3 to 5, 40_compressed sections 1 to
4): the opcode and quadrant of its format select the table it is read from, and each field reads back. -/

namespace Sys2Proof

/-! ### What well-formedness says (30_encoding R82, R103, R106) -/

theorem rv64_of_wf {xl : XLen} {i : Instr} (only : i.avail = .only64) (wf : i.wf xl = true) :
    xl = .rv64 := by
  cases xl
  case rv32 => simp [Instr.wf, Instr.existsAt, only] at wf
  case rv64 => rfl

theorem rv32_of_wf {xl : XLen} {i : Instr} (only : i.avail = .only32) (wf : i.wf xl = true) :
    xl = .rv32 := by
  cases xl
  case rv32 => rfl
  case rv64 => simp [Instr.wf, Instr.existsAt, only] at wf

theorem fieldsOk_of_wf {xl : XLen} {i : Instr} (wf : i.wf xl = true) : i.fieldsOk xl = true :=
  (Bool.and_eq_true_iff.1 wf).2

theorem bit5_eq_zero_of_lt : ∀ shamt : BitVec 6, shamt.toNat < 32 → shamt.extractLsb' 5 1 = 0#1 := by
  decide

/-- A shift amount of XLEN 32 leaves bit 25 of the word to the selector. -/
theorem shiftSelected_encSh {xl : XLen} {shamt : BitVec 6} (ok : shamtOk xl shamt = true) (f3 : BitVec 3)
    (f6 sel6 : BitVec 6) (rd rs1 : RegIx) :
    shiftSelected xl (encSh f3 f6 rd rs1 shamt) sel6 = (f6 == sel6) := by
  cases xl
  case rv32 =>
    rw [shiftSelected, Fld.funct7_encSh, bit5_eq_zero_of_lt shamt (of_decide_eq_true ok)]
    revert f6 sel6
    decide
  case rv64 => rw [shiftSelected, Fld.funct6_encSh]

theorem compressedShift_of_shamtOk {xl : XLen} {c : CWord} {shamt : BitVec 6} (i : Instr)
    (bit : CFld.bit12 c = shamt.extractLsb' 5 1) (ok : shamtOk xl shamt = true) :
    compressedShift xl c i = some i := by
  cases xl
  case rv32 =>
    rw [bit5_eq_zero_of_lt shamt (of_decide_eq_true ok)] at bit
    simp [compressedShift, bit]
  case rv64 => rfl

theorem decodeSystem0_of_fallsBackToFence {w : IWord} (falls : fallsBackToFence (Fld.funct12 w) = true) :
    decodeSystem0 w = .fenceSystem (Fld.funct12 w) (Fld.rs1 w) (Fld.rd w) := by
  simp only [fallsBackToFence, Bool.and_eq_true, bne_iff_ne] at falls
  obtain ⟨⟨⟨⟨⟨⟨ecall, ebreak⟩, uret⟩, sret⟩, mret⟩, wfi⟩, sfence⟩ := falls
  unfold decodeSystem0
  split <;> first | contradiction | exact if_neg sfence

theorem decodeSystem0_of_sfence {w : IWord} (sfence : (Fld.funct12 w).extractLsb' 5 7 = 0x09#7) :
    decodeSystem0 w = .sfenceVma (Fld.rs1 w) (Fld.rs2 w) (Fld.rd w) := by
  unfold decodeSystem0
  split
  case h_7 => exact if_pos sfence
  all_goals
    rename_i fixed
    rw [fixed] at sfence
    contradiction

/-! ### From the tables to the decoder -/

theorem decode_eq_ok_of_decode32 {xl : XLen} {w : IWord} {i : Instr} (long : isCompressed w = false)
    (known : decode32 xl w = some i) : decode xl w = .ok i := by
  simp [decode, long, known]

theorem decode_raw16_eq_ok {xl : XLen} {c : CWord} {i : Instr} (short : isCompressed (raw16 c) = true)
    (known : decode16 xl c = some i) : decode xl (raw16 c) = .ok i := by
  simp [decode, short, known]

theorem decode_of_opcode {xl : XLen} {w : IWord} {op : BitVec 7} {i : Instr} (opcode : Fld.opcode w = op)
    (long : op.extractLsb' 0 2 = 3#2) (known : decode32 xl w = some i) : decode xl w = .ok i :=
  decode_eq_ok_of_decode32 (isCompressed_of_opcode opcode long) known

theorem decode_of_quadrant {xl : XLen} {c : CWord} {q : BitVec 2} {i : Instr}
    (quadrant : CFld.quadrant c = q) (short : (q != 3#2) = true) (known : decode16 xl c = some i) :
    decode xl (raw16 c) = .ok i :=
  decode_raw16_eq_ok (isCompressed_of_quadrant quadrant short) known

/-- A 32-bit word reads back, table by table (30_encoding R86 to R103). -/
theorem decode_encode_of_long {xl : XLen} (i : Instr) (long : i.isCompressed = false)
    (wf : i.wf xl = true) : decode xl (encode i) = .ok i := by
  cases i
  case lui | auipc =>
    exact decode_of_opcode (Fld.opcode_encU ..) rfl (by simp [encode, decode32])
  case jal => exact decode_of_opcode (Fld.opcode_encJ ..) rfl (by simp [encode, decode32])
  case jalr =>
    exact decode_of_opcode (Fld.opcode_encI ..) rfl (by simp [encode, decode32, decodeJalr])
  case beq | bne | blt | bge | bltu | bgeu =>
    exact decode_of_opcode (Fld.opcode_encB ..) rfl (by simp [encode, decode32, decodeBranch])
  case lb | lh | lw | lbu | lhu =>
    exact decode_of_opcode (Fld.opcode_encI ..) rfl (by simp [encode, decode32, decodeLoad])
  case ld | lwu =>
    obtain rfl := rv64_of_wf rfl wf
    exact decode_of_opcode (Fld.opcode_encI ..) rfl (by simp [encode, decode32, decodeLoad, only64])
  case sb | sh | sw =>
    exact decode_of_opcode (Fld.opcode_encS ..) rfl (by simp [encode, decode32, decodeStore])
  case sd =>
    obtain rfl := rv64_of_wf rfl wf
    exact decode_of_opcode (Fld.opcode_encS ..) rfl (by simp [encode, decode32, decodeStore, only64])
  case addi | slti | sltiu | xori | ori | andi =>
    exact decode_of_opcode (Fld.opcode_encI ..) rfl (by simp [encode, decode32, decodeOpImm])
  case slli | srli | srai =>
    have ok := fieldsOk_of_wf wf
    simp only [Instr.fieldsOk] at ok
    exact decode_of_opcode (Fld.opcode_encSh ..) rfl
      (by simp [encode, decode32, decodeOpImm, shiftSelected_encSh ok])
  case add | sub | sll | slt | sltu | xor | srl | sra | or | and | mul | mulh | mulhsu | mulhu | div
      | divu | rem | remu =>
    exact decode_of_opcode (Fld.opcode_encR ..) rfl (by simp [encode, decode32, decodeOp])
  case fence =>
    exact decode_of_opcode (Fld.opcode_encFence ..) rfl (by simp [encode, decode32, decodeMiscMem])
  case fenceI =>
    exact decode_of_opcode (Fld.opcode_encI ..) rfl (by simp [encode, decode32, decodeMiscMem])
  case ecall | ebreak | uret | sret | mret | wfi =>
    exact decode_of_opcode (Fld.opcode_encI ..) rfl
      (by simp [encode, decode32, decodeSystem, decodeSystem0])
  case sfenceVma rs1 rs2 rd =>
    have sfence : (Fld.funct12 (encR 0x73#7 0#3 0x09#7 rd rs1 rs2)).extractLsb' 5 7 = 0x09#7 := by
      rw [Fld.funct12_encR]
      exact BitVec.extractLsb'_append_eq_left
    exact decode_of_opcode (Fld.opcode_encR ..) rfl
      (by simp [encode, decode32, decodeSystem, decodeSystem0_of_sfence sfence])
  case fenceSystem funct12 rs1 rd =>
    have falls : fallsBackToFence (Fld.funct12 (encI 0x73#7 0#3 rd rs1 funct12)) = true := by
      rw [Fld.funct12_encI]
      exact fieldsOk_of_wf wf
    exact decode_of_opcode (Fld.opcode_encI ..) rfl
      (by simp [encode, decode32, decodeSystem, decodeSystem0_of_fallsBackToFence falls])
  case csrrw | csrrs | csrrc | csrrwi | csrrsi | csrrci =>
    exact decode_of_opcode (Fld.opcode_encI ..) rfl (by simp [encode, decode32, decodeSystem])
  case addiw =>
    obtain rfl := rv64_of_wf rfl wf
    exact decode_of_opcode (Fld.opcode_encI ..) rfl
      (by simp [encode, decode32, decodeOpImm32, only64])
  case slliw | srliw | sraiw =>
    obtain rfl := rv64_of_wf rfl wf
    exact decode_of_opcode (Fld.opcode_encR ..) rfl
      (by simp [encode, decode32, decodeOpImm32, only64])
  case addw | subw | sllw | srlw | sraw | mulw | divw | divuw | remw | remuw =>
    obtain rfl := rv64_of_wf rfl wf
    exact decode_of_opcode (Fld.opcode_encR ..) rfl (by simp [encode, decode32, decodeOp32, only64])
  case lrW | scW | amoswapW | amoaddW | amoxorW | amoandW | amoorW | amominW | amomaxW | amominuW
      | amomaxuW =>
    exact decode_of_opcode (Fld.opcode_encAmo ..) rfl
      (by simp [encode, decode32, decodeAmo, decodeAmoW])
  case lrD | scD | amoswapD | amoaddD | amoxorD | amoandD | amoorD | amominD | amomaxD | amominuD
      | amomaxuD =>
    obtain rfl := rv64_of_wf rfl wf
    exact decode_of_opcode (Fld.opcode_encAmo ..) rfl
      (by simp [encode, decode32, decodeAmo, decodeAmoD, only64])
  case flw | fld =>
    exact decode_of_opcode (Fld.opcode_encI ..) rfl (by simp [encode, decode32, decodeLoadFp])
  case fsw | fsd =>
    exact decode_of_opcode (Fld.opcode_encS ..) rfl (by simp [encode, decode32, decodeStoreFp])
  case fmaddS | fmsubS | fnmsubS | fnmaddS | fmaddD | fmsubD | fnmsubD | fnmaddD =>
    exact decode_of_opcode (Fld.opcode_encR4 ..) rfl
      (by simp [encode, decode32, decodeFma, withRm])
  case faddS | fsubS | fmulS | fdivS | fsqrtS | faddD | fsubD | fmulD | fdivD | fsqrtD | fcvtSD
      | fcvtDS =>
    exact decode_of_opcode (Fld.opcode_encR ..) rfl (by simp [encode, decode32, decodeOpFp, withRm])
  case fsgnjS | fsgnjnS | fsgnjxS | fminS | fmaxS | fleS | fltS | feqS | fsgnjD | fsgnjnD | fsgnjxD
      | fminD | fmaxD | fleD | fltD | feqD =>
    exact decode_of_opcode (Fld.opcode_encR ..) rfl
      (by simp [encode, decode32, decodeOpFp, decodeFp3])
  case fcvtWS | fcvtWuS | fcvtSW | fcvtSWu | fcvtWD | fcvtWuD | fcvtDW | fcvtDWu =>
    exact decode_of_opcode (Fld.opcode_encR ..) rfl
      (by simp [encode, decode32, decodeOpFp, decodeFpCvt, withRm])
  case fcvtLS | fcvtLuS | fcvtSL | fcvtSLu | fcvtLD | fcvtLuD | fcvtDL | fcvtDLu =>
    obtain rfl := rv64_of_wf rfl wf
    exact decode_of_opcode (Fld.opcode_encR ..) rfl
      (by simp [encode, decode32, decodeOpFp, decodeFpCvt, withRm64, withRm])
  case fclassS | fmvXW | fmvWX | fclassD =>
    exact decode_of_opcode (Fld.opcode_encR ..) rfl (by simp [encode, decode32, decodeOpFp])
  case fmvXD | fmvDX =>
    obtain rfl := rv64_of_wf rfl wf
    exact decode_of_opcode (Fld.opcode_encR ..) rfl (by simp [encode, decode32, decodeOpFp, only64])
  all_goals contradiction

/-- A compressed word reads back, quadrant by quadrant (40_compressed R124 to R165). -/
theorem decode_encode_of_short {xl : XLen} (i : Instr) (short : i.isCompressed = true)
    (wf : i.wf xl = true) : decode xl (encode i) = .ok i := by
  have ok := fieldsOk_of_wf wf
  cases i
  case cAddi4spn =>
    have nonzero := bne_iff_ne.1 ok
    exact decode_of_quadrant (CFld.quadrant_encCiw ..) rfl (by simpa [decode16, decodeC0] using nonzero)
  case cFld | cFsd =>
    exact decode_of_quadrant (CFld.quadrant_encClD ..) rfl (by simp [decode16, decodeC0])
  case cLd | cSd =>
    obtain rfl := rv64_of_wf rfl wf
    exact decode_of_quadrant (CFld.quadrant_encClD ..) rfl (by simp [decode16, decodeC0])
  case cLw | cSw =>
    exact decode_of_quadrant (CFld.quadrant_encClW ..) rfl (by simp [decode16, decodeC0])
  case cFlw | cFsw =>
    obtain rfl := rv32_of_wf rfl wf
    exact decode_of_quadrant (CFld.quadrant_encClW ..) rfl (by simp [decode16, decodeC0])
  case cNop | cLi =>
    exact decode_of_quadrant (CFld.quadrant_encCi ..) rfl (by simp [decode16, decodeC1])
  case cAddi =>
    have nonzero := bne_iff_ne.1 ok
    exact decode_of_quadrant (CFld.quadrant_encCi ..) rfl (by simpa [decode16, decodeC1] using nonzero)
  case cAddiw =>
    obtain rfl := rv64_of_wf rfl wf
    have nonzero := bne_iff_ne.1 ok
    exact decode_of_quadrant (CFld.quadrant_encCi ..) rfl (by simpa [decode16, decodeC1] using nonzero)
  case cLui =>
    obtain ⟨notSp, nonzero⟩ := (Bool.and_eq_true_iff.1 ok).imp bne_iff_ne.1 bne_iff_ne.1
    exact decode_of_quadrant (CFld.quadrant_encCi ..) rfl
      (by simpa [decode16, decodeC1] using And.intro nonzero notSp)
  case cAddi16sp imm =>
    have nonzero := mt (CFld.imm6_encCi16sp imm).1 (bne_iff_ne.1 ok)
    exact decode_of_quadrant (CFld.quadrant_encCi16sp ..) rfl
      (by simpa [decode16, decodeC1] using nonzero)
  case cJal =>
    obtain rfl := rv32_of_wf rfl wf
    exact decode_of_quadrant (CFld.quadrant_encCj ..) rfl (by simp [decode16, decodeC1])
  case cJ => exact decode_of_quadrant (CFld.quadrant_encCj ..) rfl (by simp [decode16, decodeC1])
  case cBeqz | cBnez =>
    exact decode_of_quadrant (CFld.quadrant_encCb ..) rfl (by simp [decode16, decodeC1])
  case cSrli | cSrai =>
    exact decode_of_quadrant (CFld.quadrant_encCbAlu ..) rfl
      (by simp [decode16, decodeC1, decodeC1Alu, compressedShift_of_shamtOk _ _ ok])
  case cAndi =>
    exact decode_of_quadrant (CFld.quadrant_encCbAlu ..) rfl
      (by simp [decode16, decodeC1, decodeC1Alu])
  case cSub | cXor | cOr | cAnd =>
    exact decode_of_quadrant (CFld.quadrant_encCa ..) rfl
      (by simp [decode16, decodeC1, decodeC1Alu, decodeC1Reg])
  case cSubw | cAddw =>
    obtain rfl := rv64_of_wf rfl wf
    exact decode_of_quadrant (CFld.quadrant_encCa ..) rfl
      (by simp [decode16, decodeC1, decodeC1Alu, decodeC1Reg, only64])
  case cSlli =>
    exact decode_of_quadrant (CFld.quadrant_encCi ..) rfl
      (by simp [decode16, decodeC2, compressedShift_of_shamtOk _ _ ok])
  case cFldsp => exact decode_of_quadrant (CFld.quadrant_encCiD ..) rfl (by simp [decode16, decodeC2])
  case cLdsp =>
    obtain rfl := rv64_of_wf rfl wf
    have nonzero := bne_iff_ne.1 ok
    exact decode_of_quadrant (CFld.quadrant_encCiD ..) rfl (by simpa [decode16, decodeC2] using nonzero)
  case cLwsp =>
    have nonzero := bne_iff_ne.1 ok
    exact decode_of_quadrant (CFld.quadrant_encCiW ..) rfl (by simpa [decode16, decodeC2] using nonzero)
  case cFlwsp =>
    obtain rfl := rv32_of_wf rfl wf
    exact decode_of_quadrant (CFld.quadrant_encCiW ..) rfl (by simp [decode16, decodeC2])
  case cJr | cMv | cJalr =>
    have nonzero := bne_iff_ne.1 ok
    exact decode_of_quadrant (CFld.quadrant_encCr ..) rfl
      (by simpa [decode16, decodeC2, decodeC2Jump] using nonzero)
  case cAdd rd rs2 =>
    have nonzero : rs2 ≠ 0#5 := bne_iff_ne.1 ok
    exact decode_of_quadrant (CFld.quadrant_encCr ..) rfl
      (by simp [decode16, decodeC2, decodeC2Jump, nonzero])
  case cEbreak =>
    exact decode_of_quadrant (CFld.quadrant_encCr ..) rfl
      (by simp [decode16, decodeC2, decodeC2Jump])
  case cFsdsp =>
    exact decode_of_quadrant (CFld.quadrant_encCssD ..) rfl (by simp [decode16, decodeC2])
  case cSdsp =>
    obtain rfl := rv64_of_wf rfl wf
    exact decode_of_quadrant (CFld.quadrant_encCssD ..) rfl (by simp [decode16, decodeC2])
  case cSwsp =>
    exact decode_of_quadrant (CFld.quadrant_encCssW ..) rfl (by simp [decode16, decodeC2])
  case cFswsp =>
    obtain rfl := rv32_of_wf rfl wf
    exact decode_of_quadrant (CFld.quadrant_encCssW ..) rfl (by simp [decode16, decodeC2])
  all_goals contradiction

end Sys2Proof

namespace Sys2Proof.Proofs

/-- Settles O1: a word of either length reads back through the table that its opcode or its quadrant
selects. -/
theorem encodedInstructionsDecodeBack : Obligations.EncodedInstructionsDecodeBack := by
  intro xl i wf
  by_cases short : i.isCompressed = true
  · exact decode_encode_of_short i short wf
  · exact decode_encode_of_long i (Bool.eq_false_of_not_eq_true short) wf

end Sys2Proof.Proofs
end

section
/-! PROOF. A decoded 32-bit instruction is well formed and encodes back to its word (30_encoding sections
3 to 5): a row of a table fixes the fields it was selected by, and keeps the others as operands. -/

namespace Sys2Proof

/-- What a word was read as is well formed, of its length, and encodes back to it. -/
def ReadsBack (xl : XLen) (w : IWord) (short : Bool) (i : Instr) : Prop :=
  i.wf xl = true ∧ i.isCompressed = short ∧ encode i = w

/-! ### Rows of one XLEN, and of a rounding mode (30_encoding R105, R106) -/

theorem only64_eq_some {xl : XLen} {i j : Instr} (h : only64 xl i = some j) : xl = .rv64 ∧ i = j := by
  cases xl
  case rv32 => contradiction
  case rv64 => exact ⟨rfl, Option.some.inj h⟩

theorem withRm_eq_some {w : IWord} {k : Rm → Instr} {i : Instr} (h : withRm w k = some i) :
    ∃ rm, rm.bits = Fld.funct3 w ∧ k rm = i := by
  obtain ⟨rm, bits, rfl⟩ := Option.map_eq_some_iff.1 h
  exact ⟨rm, Rm.bits_of_ofBits bits, rfl⟩

theorem withRm64_eq_some {xl : XLen} {w : IWord} {k : Rm → Instr} {i : Instr}
    (h : withRm64 xl w k = some i) : xl = .rv64 ∧ ∃ rm, rm.bits = Fld.funct3 w ∧ k rm = i := by
  cases xl
  case rv32 => contradiction
  case rv64 => exact ⟨rfl, withRm_eq_some h⟩

/-! ### A word from the fields that select its row -/

section Fields
variable {w : IWord} {op f7 : BitVec 7} {f3 : BitVec 3} {f5 rs2 : BitVec 5} {f6 : BitVec 6}
  {imm : BitVec 12} {fmt : BitVec 2} {rm : Rm}

theorem encI_eq (opcode : Fld.opcode w = op) (funct3 : Fld.funct3 w = f3) (immI : Fld.immI w = imm) :
    encI op f3 (Fld.rd w) (Fld.rs1 w) imm = w := by
  subst opcode funct3 immI
  exact encI_fields w

theorem encS_eq (opcode : Fld.opcode w = op) (funct3 : Fld.funct3 w = f3) :
    encS op f3 (Fld.rs1 w) (Fld.rs2 w) (Fld.immS w) = w := by
  subst opcode funct3
  exact encS_fields w

theorem encB_eq (opcode : Fld.opcode w = op) (funct3 : Fld.funct3 w = f3) :
    encB op f3 (Fld.rs1 w) (Fld.rs2 w) (Fld.offB w) = w := by
  subst opcode funct3
  exact encB_fields w

theorem encU_eq (opcode : Fld.opcode w = op) : encU op (Fld.rd w) (Fld.immU w) = w := by
  subst opcode
  exact encU_fields w

theorem encJ_eq (opcode : Fld.opcode w = op) : encJ op (Fld.rd w) (Fld.offJ w) = w := by
  subst opcode
  exact encJ_fields w

theorem encR_eq (opcode : Fld.opcode w = op) (funct3 : Fld.funct3 w = f3) (funct7 : Fld.funct7 w = f7)
    (source : Fld.rs2 w = rs2) : encR op f3 f7 (Fld.rd w) (Fld.rs1 w) rs2 = w := by
  subst opcode funct3 funct7 source
  exact encR_fields w

theorem encR4_eq (opcode : Fld.opcode w = op) (format : Fld.fmt w = fmt)
    (bits : rm.bits = Fld.funct3 w) :
    encR4 op fmt (Fld.rd w) (Fld.rs1 w) (Fld.rs2 w) (Fld.rs3 w) rm = w := by
  subst opcode format
  exact encR4_fields w rm bits

theorem encAmo_eq (opcode : Fld.opcode w = 0x2F#7) (funct3 : Fld.funct3 w = f3)
    (funct5 : Fld.funct5 w = f5) :
    encAmo f3 f5 (Fld.rd w) (Fld.rs1 w) (Fld.rs2 w) (Fld.aq w) (Fld.rl w) = w := by
  subst funct3 funct5
  exact encAmo_fields w opcode

theorem encSh_eq (opcode : Fld.opcode w = 0x13#7) (funct3 : Fld.funct3 w = f3)
    (funct6 : Fld.funct6 w = f6) :
    encSh f3 f6 (Fld.rd w) (Fld.rs1 w) (Fld.shamt w) = w := by
  subst funct3 funct6
  exact encSh_fields w opcode

end Fields

/-! ### Shift amounts (30_encoding R82, R89) -/

theorem append_inj_of_width {n m : Nat} {a b : BitVec n} {c d : BitVec m} (h : a ++ c = b ++ d) :
    a = b ∧ c = d := by
  have left := congrArg (BitVec.extractLsb' m n) h
  have right := congrArg (BitVec.extractLsb' 0 m) h
  rw [BitVec.extractLsb'_append_eq_left, BitVec.extractLsb'_append_eq_left] at left
  rw [BitVec.extractLsb'_append_eq_right, BitVec.extractLsb'_append_eq_right] at right
  exact ⟨left, right⟩

theorem lt_of_bit5_eq_zero : ∀ shamt : BitVec 6, shamt.extractLsb' 5 1 = 0#1 → shamt.toNat < 32 := by
  decide

theorem funct7_eq_append (w : IWord) :
    Fld.funct7 w = Fld.funct6 w ++ (Fld.shamt w).extractLsb' 5 1 := by
  have top : (Fld.shamt w).extractLsb' 5 1 = w.extractLsb' 25 1 := by
    ext k hk
    obtain rfl : k = 0 := by omega
    simp [Fld.shamt]
  rw [top]
  exact (BitVec.extractLsb'_append_extractLsb'_eq_extractLsb' (x := w) (start₁ := 25) (len₁ := 1)
    (len₂ := 6) rfl).symm

theorem shiftSelected_eq_true {xl : XLen} {w : IWord} {sel6 : BitVec 6}
    (h : shiftSelected xl w sel6 = true) :
    Fld.funct6 w = sel6 ∧ shamtOk xl (Fld.shamt w) = true := by
  cases xl
  case rv32 =>
    have funct7 : Fld.funct7 w = sel6 ++ 0#1 := eq_of_beq h
    rw [funct7_eq_append] at funct7
    obtain ⟨funct6, bit⟩ := append_inj_of_width funct7
    exact ⟨funct6, decide_eq_true (lt_of_bit5_eq_zero _ bit)⟩
  case rv64 => exact ⟨eq_of_beq h, rfl⟩

/-! ### The tables (30_encoding R86 to R103) -/

section Tables
variable {xl : XLen} {w : IWord} {i : Instr}

theorem readsBack_of_decodeLoad (opcode : Fld.opcode w = 0x03#7) (h : decodeLoad xl w = some i) :
    ReadsBack xl w false i := by
  unfold decodeLoad at h
  split at h
  case h_1 f3 | h_2 f3 | h_3 f3 | h_5 f3 | h_6 f3 =>
    cases h
    exact ⟨rfl, rfl, encI_eq opcode f3 rfl⟩
  case h_4 f3 | h_7 f3 =>
    obtain ⟨rfl, rfl⟩ := only64_eq_some h
    exact ⟨rfl, rfl, encI_eq opcode f3 rfl⟩
  case h_8 => contradiction

theorem readsBack_of_decodeLoadFp (opcode : Fld.opcode w = 0x07#7) (h : decodeLoadFp w = some i) :
    ReadsBack xl w false i := by
  unfold decodeLoadFp at h
  split at h
  case h_1 f3 | h_2 f3 =>
    cases h
    exact ⟨rfl, rfl, encI_eq opcode f3 rfl⟩
  case h_3 => contradiction

theorem readsBack_of_decodeMiscMem (opcode : Fld.opcode w = 0x0F#7) (h : decodeMiscMem w = some i) :
    ReadsBack xl w false i := by
  unfold decodeMiscMem at h
  split at h
  case h_1 f3 =>
    cases h
    exact ⟨rfl, rfl, encFence_fields w opcode f3⟩
  case h_2 f3 =>
    cases h
    exact ⟨rfl, rfl, encI_eq opcode f3 rfl⟩
  case h_3 => contradiction

theorem readsBack_of_decodeOpImm (opcode : Fld.opcode w = 0x13#7) (h : decodeOpImm xl w = some i) :
    ReadsBack xl w false i := by
  unfold decodeOpImm at h
  split at h
  case h_1 f3 | h_3 f3 | h_4 f3 | h_5 f3 | h_7 f3 | h_8 f3 =>
    cases h
    exact ⟨rfl, rfl, encI_eq opcode f3 rfl⟩
  case h_2 f3 =>
    obtain ⟨selected, -, rfl⟩ := Option.ite_none_right_eq_some.1 h
    obtain ⟨funct6, ok⟩ := shiftSelected_eq_true selected
    exact ⟨ok, rfl, encSh_eq opcode f3 funct6⟩
  case h_6 f3 =>
    split at h
    case isTrue selected =>
      cases h
      obtain ⟨funct6, ok⟩ := shiftSelected_eq_true selected
      exact ⟨ok, rfl, encSh_eq opcode f3 funct6⟩
    case isFalse =>
      obtain ⟨selected, -, rfl⟩ := Option.ite_none_right_eq_some.1 h
      obtain ⟨funct6, ok⟩ := shiftSelected_eq_true selected
      exact ⟨ok, rfl, encSh_eq opcode f3 funct6⟩

theorem readsBack_of_decodeOpImm32 (opcode : Fld.opcode w = 0x1B#7)
    (h : decodeOpImm32 xl w = some i) : ReadsBack xl w false i := by
  unfold decodeOpImm32 at h
  split at h
  case h_1 f3 =>
    obtain ⟨rfl, rfl⟩ := only64_eq_some h
    exact ⟨rfl, rfl, encI_eq opcode f3 rfl⟩
  case h_2 f3 f7 | h_3 f3 f7 | h_4 f3 f7 =>
    obtain ⟨rfl, rfl⟩ := only64_eq_some h
    exact ⟨rfl, rfl, encR_eq opcode f3 f7 rfl⟩
  case h_5 => contradiction

theorem readsBack_of_decodeStore (opcode : Fld.opcode w = 0x23#7) (h : decodeStore xl w = some i) :
    ReadsBack xl w false i := by
  unfold decodeStore at h
  split at h
  case h_1 f3 | h_2 f3 | h_3 f3 =>
    cases h
    exact ⟨rfl, rfl, encS_eq opcode f3⟩
  case h_4 f3 =>
    obtain ⟨rfl, rfl⟩ := only64_eq_some h
    exact ⟨rfl, rfl, encS_eq opcode f3⟩
  case h_5 => contradiction

theorem readsBack_of_decodeStoreFp (opcode : Fld.opcode w = 0x27#7) (h : decodeStoreFp w = some i) :
    ReadsBack xl w false i := by
  unfold decodeStoreFp at h
  split at h
  case h_1 f3 | h_2 f3 =>
    cases h
    exact ⟨rfl, rfl, encS_eq opcode f3⟩
  case h_3 => contradiction

theorem readsBack_of_decodeAmoW (opcode : Fld.opcode w = 0x2F#7) (f3 : Fld.funct3 w = 2#3)
    (h : decodeAmoW w = some i) : ReadsBack xl w false i := by
  unfold decodeAmoW at h
  split at h
  case h_1 f5 | h_2 f5 | h_3 f5 | h_4 f5 | h_5 f5 | h_6 f5 | h_7 f5 | h_8 f5 | h_9 f5 | h_10 f5
      | h_11 f5 =>
    cases h
    exact ⟨rfl, rfl, encAmo_eq opcode f3 f5⟩
  case h_12 => contradiction

theorem readsBack_of_decodeAmoD (opcode : Fld.opcode w = 0x2F#7) (f3 : Fld.funct3 w = 3#3)
    (h : decodeAmoD xl w = some i) : ReadsBack xl w false i := by
  unfold decodeAmoD at h
  split at h
  case h_1 f5 | h_2 f5 | h_3 f5 | h_4 f5 | h_5 f5 | h_6 f5 | h_7 f5 | h_8 f5 | h_9 f5 | h_10 f5
      | h_11 f5 =>
    obtain ⟨rfl, rfl⟩ := only64_eq_some h
    exact ⟨rfl, rfl, encAmo_eq opcode f3 f5⟩
  case h_12 => contradiction

theorem readsBack_of_decodeAmo (opcode : Fld.opcode w = 0x2F#7) (h : decodeAmo xl w = some i) :
    ReadsBack xl w false i := by
  unfold decodeAmo at h
  split at h
  case h_1 f3 => exact readsBack_of_decodeAmoW opcode f3 h
  case h_2 f3 => exact readsBack_of_decodeAmoD opcode f3 h
  case h_3 => contradiction

theorem readsBack_of_decodeOp (opcode : Fld.opcode w = 0x33#7) (h : decodeOp w = some i) :
    ReadsBack xl w false i := by
  unfold decodeOp at h
  split at h
  case h_19 => contradiction
  all_goals
    rename_i f7 f3
    cases h
    exact ⟨rfl, rfl, encR_eq opcode f3 f7 rfl⟩

theorem readsBack_of_decodeOp32 (opcode : Fld.opcode w = 0x3B#7) (h : decodeOp32 xl w = some i) :
    ReadsBack xl w false i := by
  unfold decodeOp32 at h
  split at h
  case h_11 => contradiction
  all_goals
    rename_i f7 f3
    obtain ⟨rfl, rfl⟩ := only64_eq_some h
    exact ⟨rfl, rfl, encR_eq opcode f3 f7 rfl⟩

theorem readsBack_of_decodeBranch (opcode : Fld.opcode w = 0x63#7) (h : decodeBranch w = some i) :
    ReadsBack xl w false i := by
  unfold decodeBranch at h
  split at h
  case h_1 f3 | h_2 f3 | h_3 f3 | h_4 f3 | h_5 f3 | h_6 f3 =>
    cases h
    exact ⟨rfl, rfl, encB_eq opcode f3⟩
  case h_7 => contradiction

theorem readsBack_of_decodeJalr (opcode : Fld.opcode w = 0x67#7) (h : decodeJalr w = some i) :
    ReadsBack xl w false i := by
  unfold decodeJalr at h
  split at h
  case h_1 f3 =>
    cases h
    exact ⟨rfl, rfl, encI_eq opcode f3 rfl⟩
  case h_2 => contradiction

/-! ### SYSTEM (30_encoding R103) -/

theorem readsBack_of_decodeSystem0 (opcode : Fld.opcode w = 0x73#7) (f3 : Fld.funct3 w = 0#3) :
    ReadsBack xl w false (decodeSystem0 w) := by
  unfold decodeSystem0
  split
  case h_1 f12 | h_2 f12 | h_3 f12 | h_4 f12 | h_5 f12 | h_6 f12 =>
    exact ⟨rfl, rfl, encI_eq opcode f3 f12⟩
  case h_7 ecall ebreak uret sret mret wfi =>
    have upper : (Fld.funct12 w).extractLsb' 5 7 = Fld.funct7 w := by
      ext k hk
      have inside : 5 + k < 12 := by omega
      simp [Fld.funct12, Fld.funct7, inside, ← Nat.add_assoc]
    split
    case isTrue sfence => exact ⟨rfl, rfl, encR_eq opcode f3 (upper ▸ sfence) rfl⟩
    case isFalse other =>
      refine ⟨?_, rfl, encI_eq opcode f3 rfl⟩
      have falls : fallsBackToFence (Fld.funct12 w) = true := by
        simp only [fallsBackToFence, Bool.and_eq_true, bne_iff_ne]
        exact ⟨⟨⟨⟨⟨⟨ecall, ebreak⟩, uret⟩, sret⟩, mret⟩, wfi⟩, other⟩
      exact falls

theorem readsBack_of_decodeSystem (opcode : Fld.opcode w = 0x73#7) (h : decodeSystem w = some i) :
    ReadsBack xl w false i := by
  unfold decodeSystem at h
  split at h
  case h_1 f3 =>
    cases h
    exact readsBack_of_decodeSystem0 opcode f3
  case h_2 f3 | h_3 f3 | h_4 f3 | h_5 f3 | h_6 f3 | h_7 f3 =>
    cases h
    exact ⟨rfl, rfl, encI_eq opcode f3 rfl⟩
  case h_8 => contradiction

/-! ### Floating point (30_encoding R98, R99): the instructions that a group of rows names are its
parameters here too -/

/-- Each rounding mode of a row reads back. -/
theorem readsBack_of_withRm {k : Rm → Instr} (h : withRm w k = some i)
    (row : ∀ rm, rm.bits = Fld.funct3 w → ReadsBack xl w false (k rm)) : ReadsBack xl w false i := by
  obtain ⟨rm, bits, rfl⟩ := withRm_eq_some h
  exact row rm bits

theorem readsBack_of_decodeFma {kS kD : RegIx → RegIx → RegIx → RegIx → Rm → Instr}
    (h : decodeFma w kS kD = some i)
    (single : ∀ rm, Fld.fmt w = 0#2 → rm.bits = Fld.funct3 w →
      ReadsBack xl w false (kS (Fld.rd w) (Fld.rs1 w) (Fld.rs2 w) (Fld.rs3 w) rm))
    (double : ∀ rm, Fld.fmt w = 1#2 → rm.bits = Fld.funct3 w →
      ReadsBack xl w false (kD (Fld.rd w) (Fld.rs1 w) (Fld.rs2 w) (Fld.rs3 w) rm)) :
    ReadsBack xl w false i := by
  unfold decodeFma at h
  split at h
  case h_1 format => exact readsBack_of_withRm h (single · format)
  case h_2 format => exact readsBack_of_withRm h (double · format)
  case h_3 => contradiction

theorem decodeFp3_eq_some {k0 k1 k2 : Option (RegIx → RegIx → RegIx → Instr)}
    (h : decodeFp3 w k0 k1 k2 = some i) :
    ∃ k, k (Fld.rd w) (Fld.rs1 w) (Fld.rs2 w) = i ∧ ((k0 = some k ∧ Fld.funct3 w = 0#3) ∨
      (k1 = some k ∧ Fld.funct3 w = 1#3) ∨ (k2 = some k ∧ Fld.funct3 w = 2#3)) := by
  unfold decodeFp3 at h
  split at h
  case h_1 f3 =>
    obtain ⟨k, row, rfl⟩ := Option.map_eq_some_iff.1 h
    exact ⟨k, rfl, .inl ⟨row, f3⟩⟩
  case h_2 f3 =>
    obtain ⟨k, row, rfl⟩ := Option.map_eq_some_iff.1 h
    exact ⟨k, rfl, .inr (.inl ⟨row, f3⟩)⟩
  case h_3 f3 =>
    obtain ⟨k, row, rfl⟩ := Option.map_eq_some_iff.1 h
    exact ⟨k, rfl, .inr (.inr ⟨row, f3⟩)⟩
  case h_4 => contradiction

theorem decodeFpCvt_eq_some {k0 k1 k2 k3 : RegIx → RegIx → Rm → Instr}
    (h : decodeFpCvt xl w k0 k1 k2 k3 = some i) :
    ∃ k rm, rm.bits = Fld.funct3 w ∧ k (Fld.rd w) (Fld.rs1 w) rm = i ∧
      ((k = k0 ∧ Fld.rs2 w = 0#5) ∨ (k = k1 ∧ Fld.rs2 w = 1#5) ∨
        (k = k2 ∧ Fld.rs2 w = 2#5 ∧ xl = .rv64) ∨ (k = k3 ∧ Fld.rs2 w = 3#5 ∧ xl = .rv64)) := by
  unfold decodeFpCvt at h
  split at h
  case h_1 rs2 =>
    obtain ⟨rm, bits, rfl⟩ := withRm_eq_some h
    exact ⟨k0, rm, bits, rfl, .inl ⟨rfl, rs2⟩⟩
  case h_2 rs2 =>
    obtain ⟨rm, bits, rfl⟩ := withRm_eq_some h
    exact ⟨k1, rm, bits, rfl, .inr (.inl ⟨rfl, rs2⟩)⟩
  case h_3 rs2 =>
    obtain ⟨rv64, rm, bits, rfl⟩ := withRm64_eq_some h
    exact ⟨k2, rm, bits, rfl, .inr (.inr (.inl ⟨rfl, rs2, rv64⟩))⟩
  case h_4 rs2 =>
    obtain ⟨rv64, rm, bits, rfl⟩ := withRm64_eq_some h
    exact ⟨k3, rm, bits, rfl, .inr (.inr (.inr ⟨rfl, rs2, rv64⟩))⟩
  case h_5 => contradiction

theorem readsBack_of_decodeOpFp (opcode : Fld.opcode w = 0x53#7) (h : decodeOpFp xl w = some i) :
    ReadsBack xl w false i := by
  unfold decodeOpFp at h
  split at h
  case h_1 f7 | h_2 f7 | h_3 f7 | h_4 f7 | h_5 f7 | h_6 f7 | h_7 f7 | h_8 f7 =>
    exact readsBack_of_withRm h fun rm bits => ⟨rfl, rfl, encR_eq opcode bits.symm f7 rfl⟩
  case h_9 f7 | h_10 f7 | h_11 f7 | h_12 f7 =>
    obtain ⟨rs2, known⟩ := Option.ite_none_right_eq_some.1 h
    exact readsBack_of_withRm known fun rm bits => ⟨rfl, rfl, encR_eq opcode bits.symm f7 rs2⟩
  case h_13 f7 | h_14 f7 | h_15 f7 | h_16 f7 | h_17 f7 | h_18 f7 =>
    obtain ⟨k, rfl, ⟨row, f3⟩ | ⟨row, f3⟩ | ⟨row, f3⟩⟩ := decodeFp3_eq_some h <;> cases row <;>
      exact ⟨rfl, rfl, encR_eq opcode f3 f7 rfl⟩
  case h_19 f7 | h_20 f7 | h_21 f7 | h_22 f7 =>
    obtain ⟨k, rm, bits, rfl, ⟨rfl, rs2⟩ | ⟨rfl, rs2⟩ | ⟨rfl, rs2, rfl⟩ | ⟨rfl, rs2, rfl⟩⟩ :=
      decodeFpCvt_eq_some h <;> exact ⟨rfl, rfl, encR_eq opcode bits.symm f7 rs2⟩
  case h_23 f7 =>
    split at h
    case h_1 rs2 f3 | h_2 rs2 f3 =>
      cases h
      exact ⟨rfl, rfl, encR_eq opcode f3 f7 rs2⟩
    case h_3 => contradiction
  case h_24 f7 =>
    split at h
    case h_1 rs2 f3 =>
      obtain ⟨rfl, rfl⟩ := only64_eq_some h
      exact ⟨rfl, rfl, encR_eq opcode f3 f7 rs2⟩
    case h_2 rs2 f3 =>
      cases h
      exact ⟨rfl, rfl, encR_eq opcode f3 f7 rs2⟩
    case h_3 => contradiction
  case h_25 f7 =>
    split at h
    case h_1 rs2 f3 =>
      cases h
      exact ⟨rfl, rfl, encR_eq opcode f3 f7 rs2⟩
    case h_2 => contradiction
  case h_26 f7 =>
    split at h
    case h_1 rs2 f3 =>
      obtain ⟨rfl, rfl⟩ := only64_eq_some h
      exact ⟨rfl, rfl, encR_eq opcode f3 f7 rs2⟩
    case h_2 => contradiction
  case h_27 => contradiction

/-- Every major opcode (30_encoding R85). -/
theorem readsBack_of_decode32 (h : decode32 xl w = some i) : ReadsBack xl w false i := by
  unfold decode32 at h
  split at h
  case h_1 opcode => exact readsBack_of_decodeLoad opcode h
  case h_2 opcode => exact readsBack_of_decodeLoadFp opcode h
  case h_3 opcode => exact readsBack_of_decodeMiscMem opcode h
  case h_4 opcode => exact readsBack_of_decodeOpImm opcode h
  case h_5 opcode | h_11 opcode =>
    cases h
    exact ⟨rfl, rfl, encU_eq opcode⟩
  case h_6 opcode => exact readsBack_of_decodeOpImm32 opcode h
  case h_7 opcode => exact readsBack_of_decodeStore opcode h
  case h_8 opcode => exact readsBack_of_decodeStoreFp opcode h
  case h_9 opcode => exact readsBack_of_decodeAmo opcode h
  case h_10 opcode => exact readsBack_of_decodeOp opcode h
  case h_12 opcode => exact readsBack_of_decodeOp32 opcode h
  case h_13 opcode | h_14 opcode | h_15 opcode | h_16 opcode =>
    exact readsBack_of_decodeFma h (fun _ format bits => ⟨rfl, rfl, encR4_eq opcode format bits⟩)
      (fun _ format bits => ⟨rfl, rfl, encR4_eq opcode format bits⟩)
  case h_17 opcode => exact readsBack_of_decodeOpFp opcode h
  case h_18 opcode => exact readsBack_of_decodeBranch opcode h
  case h_19 opcode => exact readsBack_of_decodeJalr opcode h
  case h_20 opcode =>
    cases h
    exact ⟨rfl, rfl, encJ_eq opcode⟩
  case h_21 opcode => exact readsBack_of_decodeSystem opcode h
  case h_22 => contradiction

end Tables

end Sys2Proof
end

section
/-! PROOF. A decoded compressed instruction is well formed and encodes back to its word (40_compressed
sections 1 to 4), and with it every decoded instruction. -/

namespace Sys2Proof

/-! ### A word from the fields that select its row -/

section Fields
variable {c : CWord} {f3 : BitVec 3} {q : BitVec 2} {rd rs2 : RegIx}

theorem encClD_eq (quadrant : CFld.quadrant c = 0#2) (funct3 : CFld.funct3 c = f3) :
    encClD f3 (CFld.rdp c) (CFld.rs1p c) (CFld.uimmD c) = c := by
  subst funct3
  exact encClD_fields c quadrant

theorem encClW_eq (quadrant : CFld.quadrant c = 0#2) (funct3 : CFld.funct3 c = f3) :
    encClW f3 (CFld.rdp c) (CFld.rs1p c) (CFld.uimmW c) = c := by
  subst funct3
  exact encClW_fields c quadrant

theorem encCi_eq (quadrant : CFld.quadrant c = q) (funct3 : CFld.funct3 c = f3)
    (dest : CFld.rd c = rd) : encCi f3 q rd (CFld.imm6 c) = c := by
  subst quadrant funct3 dest
  exact encCi_fields c

theorem encCj_eq (quadrant : CFld.quadrant c = 1#2) (funct3 : CFld.funct3 c = f3) :
    encCj f3 (CFld.offJ c) = c := by
  subst funct3
  exact encCj_fields c quadrant

theorem encCb_eq (quadrant : CFld.quadrant c = 1#2) (funct3 : CFld.funct3 c = f3) :
    encCb f3 (CFld.rs1p c) (CFld.offB c) = c := by
  subst funct3
  exact encCb_fields c quadrant

theorem encCbAlu_eq {f2 : BitVec 2} (quadrant : CFld.quadrant c = 1#2) (funct3 : CFld.funct3 c = 4#3)
    (funct2 : c.extractLsb' 10 2 = f2) : encCbAlu f2 (CFld.rs1p c) (CFld.imm6 c) = c := by
  subst funct2
  exact encCbAlu_fields c quadrant funct3

theorem encCiD_eq (quadrant : CFld.quadrant c = 2#2) (funct3 : CFld.funct3 c = f3) :
    encCiD f3 (CFld.rd c) (CFld.uimmLdsp c) = c := by
  subst funct3
  exact encCiD_fields c quadrant

theorem encCiW_eq (quadrant : CFld.quadrant c = 2#2) (funct3 : CFld.funct3 c = f3) :
    encCiW f3 (CFld.rd c) (CFld.uimmLwsp c) = c := by
  subst funct3
  exact encCiW_fields c quadrant

theorem encCssD_eq (quadrant : CFld.quadrant c = 2#2) (funct3 : CFld.funct3 c = f3) :
    encCssD f3 (CFld.rs2 c) (CFld.uimmSdsp c) = c := by
  subst funct3
  exact encCssD_fields c quadrant

theorem encCssW_eq (quadrant : CFld.quadrant c = 2#2) (funct3 : CFld.funct3 c = f3) :
    encCssW f3 (CFld.rs2 c) (CFld.uimmSwsp c) = c := by
  subst funct3
  exact encCssW_fields c quadrant

theorem funct4_eq_append (c : CWord) :
    c.extractLsb' 12 4 = CFld.funct3 c ++ CFld.bit12 c :=
  (BitVec.extractLsb'_append_extractLsb'_eq_extractLsb' (x := c) (start₁ := 12) (len₁ := 1)
    (len₂ := 3) rfl).symm

theorem funct6_eq_append (c : CWord) :
    c.extractLsb' 10 6 = c.extractLsb' 12 4 ++ c.extractLsb' 10 2 :=
  (BitVec.extractLsb'_append_extractLsb'_eq_extractLsb' (x := c) (start₁ := 10) (len₁ := 2)
    (len₂ := 4) rfl).symm

theorem encCr_eq {b : BitVec 1} {f4 : BitVec 4} (quadrant : CFld.quadrant c = 2#2)
    (funct3 : CFld.funct3 c = f3) (bit : CFld.bit12 c = b) (funct4 : f3 ++ b = f4)
    (dest : CFld.rd c = rd) (source : CFld.rs2 c = rs2) : encCr f4 rd rs2 = c := by
  subst funct4 funct3 bit dest source
  rw [← funct4_eq_append]
  exact encCr_fields c quadrant

theorem encCa_eq {b : BitVec 1} {f2 f2' : BitVec 2} {f6 : BitVec 6} (quadrant : CFld.quadrant c = 1#2)
    (funct3 : CFld.funct3 c = f3) (bit : CFld.bit12 c = b) (select : c.extractLsb' 10 2 = f2)
    (funct6 : f3 ++ b ++ f2 = f6) (funct2 : c.extractLsb' 5 2 = f2') :
    encCa f6 f2' (CFld.rs1p c) (CFld.rdp c) = c := by
  subst funct6 funct3 bit select funct2
  rw [← funct4_eq_append, ← funct6_eq_append]
  exact encCa_fields c quadrant

end Fields

section Tables
variable {xl : XLen} {c : CWord} {i j : Instr}

theorem compressedShift_eq_some (h : compressedShift xl c j = some i) :
    shamtOk xl (CFld.imm6 c) = true ∧ j = i := by
  cases xl
  case rv64 => exact ⟨rfl, Option.some.inj h⟩
  case rv32 =>
    rcases BitVec.eq_zero_or_eq_one (CFld.bit12 c) with zero | one
    · have bit : (CFld.imm6 c).extractLsb' 5 1 = CFld.bit12 c := BitVec.extractLsb'_append_eq_left
      have ok : shamtOk .rv32 (CFld.imm6 c) = true :=
        decide_eq_true (lt_of_bit5_eq_zero _ (bit.trans zero))
      rw [compressedShift_of_shamtOk j bit.symm ok] at h
      exact ⟨ok, Option.some.inj h⟩
    · simp [compressedShift, one] at h

theorem readsBack_of_decodeC0 (quadrant : CFld.quadrant c = 0#2) (h : decodeC0 xl c = some i) :
    ReadsBack xl (raw16 c) true i := by
  unfold decodeC0 at h
  split at h
  case h_1 f3 =>
    obtain ⟨nonzero, known⟩ := Option.ite_none_left_eq_some.1 h
    cases known
    exact ⟨bne_iff_ne.2 nonzero, rfl, congrArg raw16 (encCiw_fields c quadrant f3)⟩
  case h_2 f3 | h_5 f3 | h_6 f3 | h_9 f3 =>
    cases h
    exact ⟨rfl, rfl, congrArg raw16 (encClD_eq quadrant f3)⟩
  case h_3 f3 | h_4 f3 | h_7 f3 | h_8 f3 =>
    cases h
    exact ⟨rfl, rfl, congrArg raw16 (encClW_eq quadrant f3)⟩
  case h_10 => contradiction

theorem readsBack_of_decodeC1Reg (quadrant : CFld.quadrant c = 1#2) (f3 : CFld.funct3 c = 4#3)
    (select : c.extractLsb' 10 2 = 3#2) (h : decodeC1Reg xl c = some i) :
    ReadsBack xl (raw16 c) true i := by
  unfold decodeC1Reg at h
  split at h
  case h_1 bit f2 | h_2 bit f2 | h_3 bit f2 | h_4 bit f2 =>
    cases h
    exact ⟨rfl, rfl, congrArg raw16 (encCa_eq quadrant f3 bit select rfl f2)⟩
  case h_5 bit f2 | h_6 bit f2 =>
    obtain ⟨rfl, rfl⟩ := only64_eq_some h
    exact ⟨rfl, rfl, congrArg raw16 (encCa_eq quadrant f3 bit select rfl f2)⟩
  case h_7 => contradiction

theorem readsBack_of_decodeC1Alu (quadrant : CFld.quadrant c = 1#2) (f3 : CFld.funct3 c = 4#3)
    (h : decodeC1Alu xl c = some i) : ReadsBack xl (raw16 c) true i := by
  unfold decodeC1Alu at h
  split at h
  case h_1 f2 | h_2 f2 =>
    obtain ⟨ok, rfl⟩ := compressedShift_eq_some h
    exact ⟨ok, rfl, congrArg raw16 (encCbAlu_eq quadrant f3 f2)⟩
  case h_3 f2 =>
    cases h
    exact ⟨rfl, rfl, congrArg raw16 (encCbAlu_eq quadrant f3 f2)⟩
  case h_4 select => exact readsBack_of_decodeC1Reg quadrant f3 select h

/-- The two orders of C.ADDI16SP's bits are zero together (40_compressed R121, R138). -/
theorem immAddi16sp_eq_zero_iff (quadrant : CFld.quadrant c = 1#2) (f3 : CFld.funct3 c = 3#3)
    (dest : CFld.rd c = 2#5) : CFld.immAddi16sp c = 0 ↔ CFld.imm6 c = 0 := by
  rw [← CFld.imm6_encCi16sp, encCi16sp_fields c quadrant f3 dest]

theorem readsBack_of_decodeC1 (quadrant : CFld.quadrant c = 1#2) (h : decodeC1 xl c = some i) :
    ReadsBack xl (raw16 c) true i := by
  unfold decodeC1 at h
  split at h
  case h_1 f3 =>
    split at h
    case isTrue dest =>
      cases h
      exact ⟨rfl, rfl, congrArg raw16 (encCi_eq quadrant f3 dest)⟩
    case isFalse nonzero =>
      cases h
      exact ⟨bne_iff_ne.2 nonzero, rfl, congrArg raw16 (encCi_eq quadrant f3 rfl)⟩
  case h_2 f3 | h_7 f3 =>
    cases h
    exact ⟨rfl, rfl, congrArg raw16 (encCj_eq quadrant f3)⟩
  case h_3 f3 =>
    obtain ⟨nonzero, known⟩ := Option.ite_none_left_eq_some.1 h
    cases known
    exact ⟨bne_iff_ne.2 nonzero, rfl, congrArg raw16 (encCi_eq quadrant f3 rfl)⟩
  case h_4 f3 =>
    cases h
    exact ⟨rfl, rfl, congrArg raw16 (encCi_eq quadrant f3 rfl)⟩
  case h_5 f3 =>
    obtain ⟨nonzero, known⟩ := Option.ite_none_left_eq_some.1 h
    split at known
    case isTrue dest =>
      cases known
      exact ⟨bne_iff_ne.2 (mt (immAddi16sp_eq_zero_iff quadrant f3 dest).1 nonzero), rfl,
        congrArg raw16 (encCi16sp_fields c quadrant f3 dest)⟩
    case isFalse notSp =>
      cases known
      have ok : (CFld.rd c != 2 && CFld.imm6 c != 0) = true :=
        Bool.and_eq_true_iff.2 ⟨bne_iff_ne.2 notSp, bne_iff_ne.2 nonzero⟩
      exact ⟨ok, rfl, congrArg raw16 (encCi_eq quadrant f3 rfl)⟩
  case h_6 f3 => exact readsBack_of_decodeC1Alu quadrant f3 h
  case h_8 f3 | h_9 f3 =>
    cases h
    exact ⟨rfl, rfl, congrArg raw16 (encCb_eq quadrant f3)⟩

theorem readsBack_of_decodeC2Jump (quadrant : CFld.quadrant c = 2#2) (f3 : CFld.funct3 c = 4#3)
    (h : decodeC2Jump c = some i) : ReadsBack xl (raw16 c) true i := by
  unfold decodeC2Jump at h
  split at h
  case h_1 bit =>
    split at h
    case isTrue source =>
      obtain ⟨nonzero, known⟩ := Option.ite_none_left_eq_some.1 h
      cases known
      exact ⟨bne_iff_ne.2 nonzero, rfl, congrArg raw16 (encCr_eq quadrant f3 bit rfl rfl source)⟩
    case isFalse nonzero =>
      cases h
      exact ⟨bne_iff_ne.2 nonzero, rfl, congrArg raw16 (encCr_eq quadrant f3 bit rfl rfl rfl)⟩
  case h_2 bit =>
    split at h
    case isTrue source =>
      split at h
      case isTrue dest =>
        cases h
        exact ⟨rfl, rfl, congrArg raw16 (encCr_eq quadrant f3 bit rfl dest source)⟩
      case isFalse nonzero =>
        cases h
        exact ⟨bne_iff_ne.2 nonzero, rfl, congrArg raw16 (encCr_eq quadrant f3 bit rfl rfl source)⟩
    case isFalse nonzero =>
      cases h
      exact ⟨bne_iff_ne.2 nonzero, rfl, congrArg raw16 (encCr_eq quadrant f3 bit rfl rfl rfl)⟩

theorem readsBack_of_decodeC2 (quadrant : CFld.quadrant c = 2#2) (h : decodeC2 xl c = some i) :
    ReadsBack xl (raw16 c) true i := by
  unfold decodeC2 at h
  split at h
  case h_1 f3 =>
    obtain ⟨ok, rfl⟩ := compressedShift_eq_some h
    exact ⟨ok, rfl, congrArg raw16 (encCi_eq quadrant f3 rfl)⟩
  case h_2 f3 =>
    cases h
    exact ⟨rfl, rfl, congrArg raw16 (encCiD_eq quadrant f3)⟩
  case h_3 f3 =>
    obtain ⟨nonzero, known⟩ := Option.ite_none_left_eq_some.1 h
    cases known
    exact ⟨bne_iff_ne.2 nonzero, rfl, congrArg raw16 (encCiW_eq quadrant f3)⟩
  case h_4 f3 =>
    cases h
    exact ⟨rfl, rfl, congrArg raw16 (encCiW_eq quadrant f3)⟩
  case h_5 f3 =>
    obtain ⟨nonzero, known⟩ := Option.ite_none_left_eq_some.1 h
    cases known
    exact ⟨bne_iff_ne.2 nonzero, rfl, congrArg raw16 (encCiD_eq quadrant f3)⟩
  case h_6 f3 => exact readsBack_of_decodeC2Jump quadrant f3 h
  case h_7 f3 | h_10 f3 =>
    cases h
    exact ⟨rfl, rfl, congrArg raw16 (encCssD_eq quadrant f3)⟩
  case h_8 f3 | h_9 f3 =>
    cases h
    exact ⟨rfl, rfl, congrArg raw16 (encCssW_eq quadrant f3)⟩

theorem readsBack_of_decode16 (h : decode16 xl c = some i) : ReadsBack xl (raw16 c) true i := by
  unfold decode16 at h
  split at h
  case h_1 quadrant => exact readsBack_of_decodeC0 quadrant h
  case h_2 quadrant => exact readsBack_of_decodeC1 quadrant h
  case h_3 quadrant => exact readsBack_of_decodeC2 quadrant h
  case h_4 => contradiction

end Tables

/-! ### Words of either length -/

theorem isCompressed_eq_true_iff {raw : IWord} :
    isCompressed raw = true ↔ raw.extractLsb' 0 2 ≠ 3#2 :=
  bne_iff_ne

theorem decode16_of_decode_eq_ok {xl : XLen} {raw : IWord} {i : Instr} (short : isCompressed raw = true)
    (h : decode xl raw = .ok i) : decode16 xl (raw.extractLsb' 0 16) = some i := by
  rw [decode, if_pos short] at h
  split at h
  case h_1 known => rw [known, Except.ok.inj h]
  case h_2 => contradiction

theorem decode32_of_decode_eq_ok {xl : XLen} {raw : IWord} {i : Instr}
    (long : isCompressed raw = false) (h : decode xl raw = .ok i) : decode32 xl raw = some i := by
  rw [decode, if_neg (Bool.eq_false_iff.1 long)] at h
  split at h
  case h_1 known => rw [known, Except.ok.inj h]
  case h_2 => contradiction

end Sys2Proof

namespace Sys2Proof.Proofs

/-- Settles O2: a word of either length through its own tables. -/
theorem decodedInstructionsEncodeBack : Obligations.DecodedInstructionsEncodeBack := by
  intro xl raw i h
  by_cases long : raw.extractLsb' 0 2 = 3#2
  · have notShort : isCompressed raw = false := by simp [isCompressed, long]
    obtain ⟨wf, length, back⟩ := readsBack_of_decode32 (decode32_of_decode_eq_ok notShort h)
    rw [if_pos long, if_pos long, Instr.len, length]
    exact ⟨wf, rfl, back⟩
  · have short : isCompressed raw = true := isCompressed_eq_true_iff.2 long
    obtain ⟨wf, length, back⟩ := readsBack_of_decode16 (decode16_of_decode_eq_ok short h)
    rw [if_neg long, if_neg long, Instr.len, length]
    exact ⟨wf, rfl, back⟩

end Sys2Proof.Proofs
end

section
/-! PROOF. Decoding a compressed word agrees with expanding it (40_compressed sections 1 to 5): each row
of the decoder's tables stands beside the row of the expander's, and a refusal beside the word 0. -/

namespace Sys2Proof

/-- The expander's answer beside the decoder's: the word of the instruction's base instruction, or 0
where the decoder refuses. -/
def Expands (w : IWord) : Option Instr → Prop
  | some i => w = encode i.expansion ∧ Laws.Expansion.Statement i
  | none => w = 0

section Tables
variable (xl : XLen) (c : CWord)

theorem expands_expand0 : Expands (expand0 xl c) (decodeC0 xl c) := by
  unfold decodeC0 expand0
  split
  case h_1 =>
    simp only
    split
    case isTrue => exact rfl
    case isFalse => exact ⟨rfl, Laws.Expansion.cAddi4spn _ _⟩
  case h_2 => exact ⟨rfl, Laws.Expansion.cFld _ _ _⟩
  case h_3 => exact ⟨rfl, Laws.Expansion.cLw _ _ _⟩
  case h_4 => exact ⟨rfl, Laws.Expansion.cFlw _ _ _⟩
  case h_5 => exact ⟨rfl, Laws.Expansion.cLd _ _ _⟩
  case h_6 => exact ⟨rfl, Laws.Expansion.cFsd _ _ _⟩
  case h_7 => exact ⟨rfl, Laws.Expansion.cSw _ _ _⟩
  case h_8 => exact ⟨rfl, Laws.Expansion.cFsw _ _ _⟩
  case h_9 => exact ⟨rfl, Laws.Expansion.cSd _ _ _⟩
  case h_10 => exact rfl

/-- A compressed shift beside its row of the expander, which refuses the same words. -/
theorem expands_compressedShift {i : Instr} {w : IWord} (encodes : w = encode i.expansion)
    (law : Laws.Expansion.Statement i) :
    Expands (if xl = .rv32 ∧ CFld.bit12 c = 1 then 0 else w) (compressedShift xl c i) := by
  cases xl
  case rv64 => exact ⟨(if_neg fun refused => nomatch refused.1).trans encodes, law⟩
  case rv32 =>
    rcases BitVec.eq_zero_or_eq_one (CFld.bit12 c) with zero | one
    · simp only [compressedShift, zero]
      exact ⟨encodes, law⟩
    · simp only [compressedShift, one]
      exact rfl

theorem or_append_eq_append : ∀ shamt : BitVec 6, 0x400#12 ||| (0#6 ++ shamt) = 0x10#6 ++ shamt := by
  decide

theorem expands_only64 {i : Instr} {w : IWord} (encodes : w = encode i.expansion)
    (law : Laws.Expansion.Statement i) :
    Expands (if xl = .rv32 then 0 else w) (only64 xl i) := by
  cases xl
  case rv32 => exact rfl
  case rv64 => exact ⟨encodes, law⟩

theorem expands_expand1Alu : Expands (expand1Alu xl c) (decodeC1Alu xl c) := by
  unfold decodeC1Alu expand1Alu
  split
  case h_1 =>
    exact expands_compressedShift xl c rfl (Laws.Expansion.cSrli _ _)
  case h_2 =>
    exact expands_compressedShift xl c (by rw [or_append_eq_append]; rfl)
      (Laws.Expansion.cSrai _ _)
  case h_3 => exact ⟨rfl, Laws.Expansion.cAndi _ _⟩
  case h_4 =>
    unfold decodeC1Reg
    simp only
    split
    case h_1 => exact ⟨rfl, Laws.Expansion.cSub _ _⟩
    case h_2 => exact ⟨rfl, Laws.Expansion.cXor _ _⟩
    case h_3 => exact ⟨rfl, Laws.Expansion.cOr _ _⟩
    case h_4 => exact ⟨rfl, Laws.Expansion.cAnd _ _⟩
    case h_5 => exact expands_only64 xl rfl (Laws.Expansion.cSubw _ _)
    case h_6 => exact expands_only64 xl rfl (Laws.Expansion.cAddw _ _)
    case h_7 => exact rfl

theorem expands_expand1 (quadrant : CFld.quadrant c = 1#2) :
    Expands (expand1 xl c) (decodeC1 xl c) := by
  unfold decodeC1 expand1
  split
  case h_1 =>
    simp only
    split
    case isTrue dest => exact ⟨by rw [dest]; rfl, Laws.Expansion.cNop _⟩
    case isFalse => exact ⟨rfl, Laws.Expansion.cAddi _ _⟩
  case h_2 => exact ⟨rfl, Laws.Expansion.cJal _⟩
  case h_3 =>
    simp only
    split
    case isTrue => exact rfl
    case isFalse => exact ⟨rfl, Laws.Expansion.cAddiw _ _⟩
  case h_4 => exact ⟨rfl, Laws.Expansion.cLi _ _⟩
  case h_5 f3 =>
    simp only
    by_cases dest : CFld.rd c = 2
    · simp only [dest, if_true, immAddi16sp_eq_zero_iff quadrant f3 dest]
      split
      case isTrue => exact rfl
      case isFalse => exact ⟨rfl, Laws.Expansion.cAddi16sp _⟩
    · simp only [dest, if_false]
      split
      case isTrue => exact rfl
      case isFalse => exact ⟨rfl, Laws.Expansion.cLui _ _⟩
  case h_6 => exact expands_expand1Alu _ c
  case h_7 => exact ⟨rfl, Laws.Expansion.cJ _⟩
  case h_8 => exact ⟨rfl, Laws.Expansion.cBeqz _ _⟩
  case h_9 => exact ⟨rfl, Laws.Expansion.cBnez _ _⟩

theorem expands_expand2 : Expands (expand2 xl c) (decodeC2 xl c) := by
  unfold decodeC2 expand2
  split
  case h_1 =>
    exact expands_compressedShift _ c rfl (Laws.Expansion.cSlli _ _)
  case h_2 => exact ⟨rfl, Laws.Expansion.cFldsp _ _⟩
  case h_3 =>
    simp only
    split
    case isTrue => exact rfl
    case isFalse => exact ⟨rfl, Laws.Expansion.cLwsp _ _⟩
  case h_4 => exact ⟨rfl, Laws.Expansion.cFlwsp _ _⟩
  case h_5 =>
    simp only
    split
    case isTrue => exact rfl
    case isFalse => exact ⟨rfl, Laws.Expansion.cLdsp _ _⟩
  case h_6 =>
    unfold decodeC2Jump
    simp only
    split <;> split
    case h_1.isTrue =>
      split
      case isTrue => exact rfl
      case isFalse => exact ⟨rfl, Laws.Expansion.cJr _⟩
    case h_1.isFalse => exact ⟨rfl, Laws.Expansion.cMv _ _⟩
    case h_2.isTrue =>
      split
      case isTrue => exact ⟨rfl, Laws.Expansion.cEbreak⟩
      case isFalse => exact ⟨rfl, Laws.Expansion.cJalr _⟩
    case h_2.isFalse => exact ⟨rfl, Laws.Expansion.cAdd _ _⟩
  case h_7 => exact ⟨rfl, Laws.Expansion.cFsdsp _ _⟩
  case h_8 => exact ⟨rfl, Laws.Expansion.cSwsp _ _⟩
  case h_9 => exact ⟨rfl, Laws.Expansion.cFswsp _ _⟩
  case h_10 => exact ⟨rfl, Laws.Expansion.cSdsp _ _⟩

theorem expands_expand : Expands (expand xl c) (decode16 xl c) := by
  unfold decode16 expand
  split
  case h_1 => exact expands_expand0 xl c
  case h_2 quadrant => exact expands_expand1 xl c quadrant
  case h_3 => exact expands_expand2 xl c
  case h_4 => exact rfl

end Tables

/-- A word of two bytes is decoded by the tables of the compressed words. -/
theorem decode_eq_of_short (xl : XLen) {raw : IWord} (short : raw.extractLsb' 0 2 ≠ 3#2) :
    decode xl raw = match decode16 xl (raw.extractLsb' 0 16) with
      | some i => .ok i
      | none => .error (.reservedCompressed (raw.extractLsb' 0 16)) :=
  if_pos (isCompressed_eq_true_iff.2 short)

end Sys2Proof

namespace Sys2Proof.Proofs

/-- Settles O3: the rows of the two tables side by side, and the encoder and decoder of 32-bit words as
inverses. -/
theorem compressedWordsDecodeLikeTheirExpansion :
    Obligations.CompressedWordsDecodeLikeTheirExpansion := by
  intro xl raw short
  have rows := expands_expand xl (raw.extractLsb' 0 16)
  rw [decode_eq_of_short xl short]
  cases known : decode16 xl (raw.extractLsb' 0 16) with
  | none =>
    rw [known] at rows
    exact rows
  | some i =>
    rw [known] at rows
    obtain ⟨encodes, law⟩ := rows
    obtain ⟨wf, -⟩ := readsBack_of_decode16 known
    obtain ⟨long, baseWf⟩ := law xl wf
    exact encodes ▸ decode_encode_of_long i.expansion long baseWf

end Sys2Proof.Proofs
end

section
/-! PROOF. What the decoder refuses (40_compressed section 1, 30_encoding section 5), and the words that
the spec writes out. -/

namespace Sys2Proof

open Sys2Proof.Claim

theorem bitVec3_cases : ∀ f : BitVec 3, f = 0#3 ∨ f = 1#3 ∨ f = 2#3 ∨ f = 3#3 ∨ f = 4#3 ∨ f = 5#3 ∨
    f = 6#3 ∨ f = 7#3 := by
  decide

theorem bitVec2_cases : ∀ f : BitVec 2, f = 0#2 ∨ f = 1#2 ∨ f = 2#2 ∨ f = 3#2 := by
  decide

section Tables
variable (xl : XLen) (c : CWord)

/-- The bits of nzuimm are those of bits 12:5 of the word, in another order. -/
theorem immAddi4spn_eq_zero_iff : CFld.immAddi4spn c = 0 ↔ c.extractLsb' 5 8 = 0 := by
  have reorder : ∀ field : BitVec 8, field.extractLsb' 2 4 ++ field.extractLsb' 6 2 ++
      field.extractLsb' 0 1 ++ field.extractLsb' 1 1 = 0 ↔ field = 0 := by decide
  have known := reorder (c.extractLsb' 5 8)
  have part (start len : Nat) (fits : start + len ≤ 8) :
      (c.extractLsb' 5 8).extractLsb' start len = c.extractLsb' (5 + start) len := by
    ext k
    grind
  rwa [part 2 4 (by decide), part 6 2 (by decide), part 0 1 (by decide), part 1 1 (by decide)] at known

theorem imm6_eq_zero_iff : CFld.imm6 c = 0 ↔ CFld.bit12 c = 0 ∧ c.extractLsb' 2 5 = 0 :=
  ⟨fun h => append_inj_of_width (b := 0#1) (d := 0#5) h, fun ⟨bit, low⟩ => by
    rw [CFld.imm6, ← CFld.bit12, bit, low]
    rfl⟩

theorem compressedShift_eq_none_iff (i : Instr) :
    compressedShift xl c i = none ↔ CFld.bit12 c = 1#1 ∧ xl = .rv32 := by
  rcases BitVec.eq_zero_or_eq_one (CFld.bit12 c) with bit | bit <;> cases xl <;>
    simp [compressedShift, bit]

theorem decodeC0_eq_none_iff : decodeC0 xl c = none ↔
    CFld.funct3 c = 0#3 ∧ c.extractLsb' 5 8 = 0 ∨ CFld.funct3 c = 4#3 := by
  rw [← immAddi4spn_eq_zero_iff]
  cases xl <;> rcases bitVec3_cases (CFld.funct3 c) with f3 | f3 | f3 | f3 | f3 | f3 | f3 | f3 <;>
    simp [decodeC0, f3]

theorem decodeC1Reg_eq_none_iff : decodeC1Reg xl c = none ↔ CFld.bit12 c = 1#1 ∧
    (c.extractLsb' 5 2 = 2#2 ∨ c.extractLsb' 5 2 = 3#2 ∨ xl = .rv32) := by
  rcases BitVec.eq_zero_or_eq_one (CFld.bit12 c) with bit | bit <;>
    rcases bitVec2_cases (c.extractLsb' 5 2) with f2 | f2 | f2 | f2 <;> cases xl <;>
    simp [decodeC1Reg, only64, bit, f2]

theorem decodeC1Alu_eq_none_iff : decodeC1Alu xl c = none ↔ CFld.bit12 c = 1#1 ∧
    ((c.extractLsb' 10 2 = 0#2 ∨ c.extractLsb' 10 2 = 1#2) ∧ xl = .rv32 ∨ c.extractLsb' 10 2 = 3#2 ∧
      (c.extractLsb' 5 2 = 2#2 ∨ c.extractLsb' 5 2 = 3#2 ∨ xl = .rv32)) := by
  rcases bitVec2_cases (c.extractLsb' 10 2) with f2 | f2 | f2 | f2 <;>
    simp [decodeC1Alu, f2, compressedShift_eq_none_iff, decodeC1Reg_eq_none_iff]

theorem decodeC1_eq_none_iff : decodeC1 xl c = none ↔
    CFld.funct3 c = 1#3 ∧ CFld.rd c = 0 ∧ xl = .rv64 ∨
    CFld.funct3 c = 3#3 ∧ CFld.bit12 c = 0 ∧ c.extractLsb' 2 5 = 0 ∨
    CFld.funct3 c = 4#3 ∧ decodeC1Alu xl c = none := by
  rw [← imm6_eq_zero_iff]
  cases xl <;> rcases bitVec3_cases (CFld.funct3 c) with f3 | f3 | f3 | f3 | f3 | f3 | f3 | f3 <;>
    grind [decodeC1]

theorem decodeC2Jump_eq_none_iff : decodeC2Jump c = none ↔
    CFld.bit12 c = 0#1 ∧ CFld.rs2 c = 0 ∧ CFld.rd c = 0 := by
  rcases BitVec.eq_zero_or_eq_one (CFld.bit12 c) with bit | bit <;>
    grind [decodeC2Jump]

theorem decodeC2_eq_none_iff : decodeC2 xl c = none ↔
    CFld.funct3 c = 0#3 ∧ CFld.bit12 c = 1#1 ∧ xl = .rv32 ∨
    CFld.funct3 c = 2#3 ∧ CFld.rd c = 0 ∨
    CFld.funct3 c = 3#3 ∧ CFld.rd c = 0 ∧ xl = .rv64 ∨
    CFld.funct3 c = 4#3 ∧ CFld.bit12 c = 0#1 ∧ CFld.rs2 c = 0 ∧ CFld.rd c = 0 := by
  rw [← decodeC2Jump_eq_none_iff]
  cases xl <;> rcases bitVec3_cases (CFld.funct3 c) with f3 | f3 | f3 | f3 | f3 | f3 | f3 | f3 <;>
    simp [decodeC2, f3, compressedShift_eq_none_iff]

/-- The decoder refuses exactly the words that the spec's list of reserved words names. -/
theorem decode16_eq_none_iff (short : CFld.quadrant c ≠ 3#2) :
    decode16 xl c = none ↔ ReservedWord xl c := by
  unfold decode16
  split
  case h_1 quadrant =>
    rw [decodeC0_eq_none_iff]
    simp_all [ReservedWord, CFld.quadrant, CFld.funct3]
  case h_2 quadrant =>
    rw [decodeC1_eq_none_iff, decodeC1Alu_eq_none_iff]
    simp_all [ReservedWord, CFld.quadrant, CFld.funct3, CFld.bit12, CFld.rd]
    grind
  case h_3 quadrant =>
    rw [decodeC2_eq_none_iff]
    simp_all [ReservedWord, CFld.quadrant, CFld.funct3, CFld.bit12, CFld.rd, CFld.rs2]
  case h_4 quadrant => exact absurd quadrant short

end Tables

theorem decode_eq_error_iff (xl : XLen) {raw : IWord} (short : raw.extractLsb' 0 2 ≠ 3#2) :
    (∃ r, decode xl raw = .error r) ↔ decode16 xl (raw.extractLsb' 0 16) = none := by
  rw [decode_eq_of_short xl short]
  cases decode16 xl (raw.extractLsb' 0 16) <;> simp

theorem decodeOpImm32_rv32 (w : IWord) : decodeOpImm32 .rv32 w = none := by
  unfold decodeOpImm32
  split <;> rfl

theorem decodeOp32_rv32 (w : IWord) : decodeOp32 .rv32 w = none := by
  unfold decodeOp32
  split <;> rfl

theorem decode32_eq_none_of_unlisted {xl : XLen} {w : IWord}
    (unlisted : Fld.opcode w ∉ listedOpcodes xl) : decode32 xl w = none := by
  unfold decode32
  cases xl <;> split <;> simp_all [listedOpcodes, decodeOpImm32_rv32, decodeOp32_rv32]

end Sys2Proof

namespace Sys2Proof.Proofs

/-- Settles O4: what each quadrant's table refuses. -/
theorem reservedCompressedWordsAreExactlyTheListed :
    Obligations.ReservedCompressedWordsAreExactlyTheListed := by
  intro xl raw short
  rw [decode_eq_error_iff xl short]
  refine decode16_eq_none_iff xl _ ?_
  rwa [CFld.quadrant, BitVec.extractLsb'_extractLsb'_of_le (by decide)]

/-- Settles O5: an opcode outside the list has no row in the decoder's table. -/
theorem unlistedOpcodesAreUnknown : Obligations.UnlistedOpcodesAreUnknown := by
  intro xl raw long unlisted
  have notShort : isCompressed raw = false := by simp [isCompressed, long]
  exact decode_eq_unknownWord notShort (decode32_eq_none_of_unlisted unlisted)

/-- Settles O7: the decoder runs on the ten words. -/
theorem specWordsDecode : Obligations.SpecWordsDecode := by
  refine ⟨?_, ?_, ?_, ?_, ?_, ?_, ?_, ?_, rfl, rfl⟩ <;> intro xl <;> cases xl <;> rfl

end Sys2Proof.Proofs
end

section
/-! PROOF. What executing an instruction can do (20_memory section 4, 41_alu to 48_float_double): every
instruction completes, in a state that only registers, pc, memory and reservation set apart, or by a trap,
a trap return or a CSR write, whatever the privilege level and the inert CSRs hold. -/

namespace Sys2Proof.Machine

open Sys2Proof.Claim

/-! ### The same state at another privilege level, with other inert CSRs -/

/-- `s` at the level `p` with the inert CSRs `l` (10_state R31, R32). -/
def State.withLevel (s : State) (p : BitVec 2) (l : List (Nat × CsrWord)) : State :=
  { s with priv := p, csrs := l }

/-! ### Effects that neither read nor write the level and the CSRs -/

/-- At `s`, `f` is the meaning of a part of `i` that changes only what `i` may change of registers, pc,
memory and reservation, keeps the shape of a state and an even pc, and reads neither the level nor an
inert CSR. -/
structure Plain (i : Instr) (f : State → State) (s : State) : Prop where
  frame : f s = { s with
    x := (f s).x, pc := (f s).pc, fs := (f s).fs, fd := (f s).fd, mem := (f s).mem,
    resvAddr := (f s).resvAddr, resvValid := (f s).resvValid }
  reservation : writesReservation i = false →
    (f s).resvAddr = s.resvAddr ∧ (f s).resvValid = s.resvValid
  memory : writesMemory i = false → (f s).mem = s.mem
  single : writesSingle i = false → (f s).fs = s.fs
  double : writesDouble i = false → (f s).fd = s.fd
  wf : s.Wf → (f s).Wf
  even : s.PcEven → (f s).PcEven
  level : ∀ p l, f (s.withLevel p l) = (f s).withLevel p l

section Parts
variable {i : Instr} {f g : State → State} {s : State}

theorem Plain.comp (second : Plain i g (f s)) (first : Plain i f s) : Plain i (fun u => g (f u)) s where
  frame := by
    rw [second.frame, first.frame]
  reservation := fun keeps => by
    obtain ⟨addr, valid⟩ := first.reservation keeps
    obtain ⟨addr', valid'⟩ := second.reservation keeps
    exact ⟨addr'.trans addr, valid'.trans valid⟩
  memory := fun keeps => (second.memory keeps).trans (first.memory keeps)
  single := fun keeps => (second.single keeps).trans (first.single keeps)
  double := fun keeps => (second.double keeps).trans (first.double keeps)
  wf := fun hs => second.wf (first.wf hs)
  even := fun hs => second.even (first.even hs)
  level := fun p l => by rw [first.level, second.level]

/-- `f` where it agrees with `g` at every level. -/
theorem Plain.congr (plain : Plain i g s) (same : ∀ p l, f (s.withLevel p l) = g (s.withLevel p l)) :
    Plain i f s := by
  have here : f s = g s := same s.priv s.csrs
  obtain ⟨frame, reservation, memory, single, double, wf, even, level⟩ := plain
  rw [← here] at frame reservation memory single double wf even level
  exact ⟨frame, reservation, memory, single, double, wf, even, fun p l => (same p l).trans (level p l)⟩

theorem wf_setX (rd : RegIx) (v : Word) (hs : s.Wf) : (s.setX rd v).Wf := by
  obtain ⟨x, x0, pc, resvAddr, mem, csrs, live⟩ := hs
  unfold State.setX
  split
  case isTrue => exact ⟨x, x0, pc, resvAddr, mem, csrs, live⟩
  case isFalse nonzero =>
    have notZero : rd.toNat ≠ 0 := fun zero => nonzero (BitVec.eq_of_toNat_eq zero)
    refine ⟨fun r => ?_, ?_, pc, resvAddr, mem, csrs, live⟩
    · by_cases same : rd.toNat = r
      · simp [same]
      · simpa [Vector.getElem_set_ne, same] using x r
    · simpa [Vector.getElem_set_ne, notZero] using x0

/-- An XLEN-bit value keeps the lowest bit. -/
theorem getLsbD_zero_xzext (xl : XLen) (v : Word) : (xzext xl v).getLsbD 0 = v.getLsbD 0 := by
  cases xl <;> simp [xzext, XLen.bits]

theorem plain_setX {v : State → Word} (rd : RegIx) (blind : ∀ p l, v (s.withLevel p l) = v s) :
    Plain i (fun u => u.setX rd (v u)) s where
  frame := by
    rw [setX_frame]
  reservation := fun _ => by simp
  memory := fun _ => by simp
  single := fun _ => by simp
  double := fun _ => by simp
  wf := wf_setX rd (v s)
  even := fun hs => by simpa [State.PcEven] using hs
  level := fun p l => by
    simp only [blind]
    unfold State.setX
    split <;> rfl

theorem plain_setPc {a : State → Word} (blind : ∀ p l, a (s.withLevel p l) = a s)
    (even : s.PcEven → (a s).getLsbD 0 = false) : Plain i (fun u => u.setPc (a u)) s where
  frame := rfl
  reservation := fun _ => ⟨rfl, rfl⟩
  memory := fun _ => rfl
  single := fun _ => rfl
  double := fun _ => rfl
  wf := fun ⟨x, x0, _, resvAddr, mem, csrs, live⟩ =>
    ⟨x, x0, xzext_fits _ _, resvAddr, mem, csrs, live⟩
  even := fun hs => (getLsbD_zero_xzext _ _).trans (even hs)
  level := fun p l => by
    simp only [blind]
    rfl

theorem plain_setS {v : State → BitVec 32} (rd : RegIx) (may : writesSingle i = true)
    (blind : ∀ p l, v (s.withLevel p l) = v s) : Plain i (fun u => u.setS rd (v u)) s where
  frame := rfl
  reservation := fun _ => ⟨rfl, rfl⟩
  memory := fun _ => rfl
  single := fun keeps => absurd (may.symm.trans keeps) Bool.noConfusion
  double := fun _ => rfl
  wf := fun ⟨x, x0, pc, resvAddr, mem, csrs, live⟩ => ⟨x, x0, pc, resvAddr, mem, csrs, live⟩
  even := id
  level := fun p l => by
    simp only [blind]
    rfl

theorem plain_setD {v : State → BitVec 64} (rd : RegIx) (may : writesDouble i = true)
    (blind : ∀ p l, v (s.withLevel p l) = v s) : Plain i (fun u => u.setD rd (v u)) s where
  frame := rfl
  reservation := fun _ => ⟨rfl, rfl⟩
  memory := fun _ => rfl
  single := fun _ => rfl
  double := fun keeps => absurd (may.symm.trans keeps) Bool.noConfusion
  wf := fun ⟨x, x0, pc, resvAddr, mem, csrs, live⟩ => ⟨x, x0, pc, resvAddr, mem, csrs, live⟩
  even := id
  level := fun p l => by
    simp only [blind]
    rfl

theorem plain_reserve {a : State → Word} {valid : Bool} (may : writesReservation i = true)
    (fits : s.Wf → fitsXlen s.cfg.xlen (a s)) (blind : ∀ p l, a (s.withLevel p l) = a s) :
    Plain i (fun u => { u with resvAddr := a u, resvValid := valid }) s where
  frame := rfl
  reservation := fun keeps => absurd (may.symm.trans keeps) Bool.noConfusion
  memory := fun _ => rfl
  single := fun _ => rfl
  double := fun _ => rfl
  wf := fun hs => ⟨hs.x, hs.x0, hs.pc, fits hs, hs.mem, hs.csrs, hs.live⟩
  even := id
  level := fun p l => by
    simp only [blind]
    rfl

theorem memWrite_withLevel {w n : Nat} (a : Word) (v : BitVec w) (p : BitVec 2)
    (l : List (Nat × CsrWord)) :
    (s.withLevel p l).memWrite a n v = (s.memWrite a n v).map (·.withLevel p l) := by
  unfold State.memWrite
  change (if s.inRange a n = true then _ else match s.cfg.oobPolicy with | .zero => _ | .trap => _) = _
  split
  case isTrue => rfl
  case isFalse => cases s.cfg.oobPolicy <;> rfl

theorem plain_memWrite {w n : Nat} {a : State → Word} {v : State → BitVec w} {t : State}
    (may : writesMemory i = true) (written : s.memWrite (a s) n (v s) = some t)
    (blindA : ∀ p l, a (s.withLevel p l) = a s) (blindV : ∀ p l, v (s.withLevel p l) = v s) :
    Plain i (fun u => (u.memWrite (a u) n (v u)).getD u) s := by
  obtain ⟨frame, wf⟩ := memWrite_frame written
  refine ⟨?_, fun _ => ?_, fun keeps => absurd (may.symm.trans keeps) Bool.noConfusion, fun _ => ?_,
    fun _ => ?_, fun hs => ?_, fun hs => ?_, fun p l => ?_⟩
  all_goals simp only [memWrite_withLevel, blindA, blindV, written, Option.map_some, Option.getD_some]
  all_goals rw [frame]
  · exact ⟨rfl, rfl⟩
  · exact ⟨hs.x, hs.x0, hs.pc, hs.resvAddr, wf hs.mem, hs.csrs, hs.live⟩
  · exact hs

/-! ### The shared ends of instructions -/

theorem getLsbD_zero_xadd (xl : XLen) (a b : Word) :
    (xadd xl a b).getLsbD 0 = (a.getLsbD 0 ^^ b.getLsbD 0) := by
  have positive : 0 < xl.bits := by cases xl <;> decide
  rw [xadd, xbin, BitVec.getLsbD_setWidth, BitVec.getLsbD_add positive]
  simp [positive]

theorem getLsbD_zero_nextPc (len : Nat) (even : 2 ∣ len) (hs : s.PcEven) :
    (s.nextPc len).getLsbD 0 = false := by
  obtain ⟨half, rfl⟩ := even
  rw [State.nextPc, getLsbD_zero_xadd, hs]
  rw [BitVec.getLsbD_ofNat]
  simp

theorem plain_advance (len : Nat) (even : 2 ∣ len) : Plain i (·.advance len) s :=
  plain_setPc (a := fun u => u.nextPc len) (fun _ _ => rfl) (getLsbD_zero_nextPc len even)

theorem plain_retX {v : State → Word} (len : Nat) (rd : RegIx) (even : 2 ∣ len)
    (blind : ∀ p l, v (s.withLevel p l) = v s) : Plain i (fun u => u.retX len rd (v u)) s :=
  (plain_advance len even).comp (plain_setX rd blind)

theorem plain_retS {r : State → Option (BitVec 32)} (rd : RegIx) (may : writesSingle i = true)
    (blind : ∀ p l, r (s.withLevel p l) = r s) : Plain i (fun u => u.retS rd (r u)) s :=
  (plain_advance 4 (by decide)).comp
    (plain_setS (v := fun u => (r u).getD u.nan32) rd may fun p l => congrArg (·.getD s.nan32) (blind p l))

theorem plain_retD {r : State → Option (BitVec 64)} (rd : RegIx) (may : writesDouble i = true)
    (blind : ∀ p l, r (s.withLevel p l) = r s) : Plain i (fun u => u.retD rd (r u)) s :=
  (plain_advance 4 (by decide)).comp
    (plain_setD (v := fun u => (r u).getD u.nan64) rd may fun p l => congrArg (·.getD s.nan64) (blind p l))

theorem getLsbD_zero_target (xl : XLen) {n : Nat} (a : Word) (off : BitVec n)
    (even : a.getLsbD 0 = false) : (xadd xl a (xsext xl (off ++ 0#1))).getLsbD 0 = false := by
  rw [getLsbD_zero_xadd, even]
  have low : (off ++ 0#1).getLsbD 0 = false := by
    rw [BitVec.getLsbD_append]
    rfl
  cases xl <;> simpa [xsext, XLen.bits, BitVec.getElem_signExtend] using low

theorem getLsbD_zero_clearBit0 (a : Word) : (clearBit0 a).getLsbD 0 = false := by
  simp [clearBit0]

/-- A link in a register and a jump to a target that was computed before. -/
theorem plain_link (len : Nat) (rd : RegIx) (target : Word)
    (even : s.PcEven → target.getLsbD 0 = false) :
    Plain i (fun u => (u.setX rd (u.nextPc len)).setPc target) s :=
  Plain.comp (g := fun u => u.setPc target)
    (plain_setPc (a := fun _ => target) (fun _ _ => rfl)
      fun hs => even (by simpa [State.PcEven] using hs))
    (plain_setX (v := fun u => u.nextPc len) rd fun _ _ => rfl)

theorem plain_jal (len : Nat) (rd : RegIx) (off : BitVec 20) : Plain i (·.jal len rd off) s :=
  (plain_link len rd (xadd s.cfg.xlen s.pc (jumpOffset s.cfg.xlen off))
    (getLsbD_zero_target _ _ off)).congr fun _ _ => rfl

theorem plain_jalr (len : Nat) (rd rs1 : RegIx) (imm : BitVec 12) :
    Plain i (·.jalr len rd rs1 imm) s :=
  (plain_link len rd (clearBit0 (xadd s.cfg.xlen (s.getX rs1) (immValue s.cfg.xlen imm)))
    fun _ => getLsbD_zero_clearBit0 _).congr fun _ _ => rfl

theorem plain_branch {taken : State → Bool} (len : Nat) (off : BitVec 12) (even : 2 ∣ len)
    (blind : ∀ p l, taken (s.withLevel p l) = taken s) :
    Plain i (fun u => u.branch len (taken u) off) s := by
  cases decided : taken s with
  | false =>
    exact (plain_advance len even).congr fun p l => by rw [blind, decided]; rfl
  | true =>
    exact (plain_setPc (a := fun u => xadd u.cfg.xlen u.pc (branchOffset u.cfg.xlen off))
      (fun _ _ => rfl) (getLsbD_zero_target _ _ off)).congr fun p l => by rw [blind, decided]; rfl

end Parts

/-! ### Every way an instruction can complete -/

/-- What the meaning `f` of `i` does in `s`. -/
inductive Completes (i : Instr) (f : State → State) (s : State) : Prop
  | plain (effect : Plain i f s)
  | trap (cause : BitVec 2 → Cause)
      (effect : ∀ p l, f (s.withLevel p l) = (s.withLevel p l).trap (cause p))
  | mret (rs1 rd : RegIx) (here : i = .mret rs1 rd)
      (effect : ∀ p l, f (s.withLevel p l) = (s.withLevel p l).mret)
  | sret (rs1 rd : RegIx) (here : i = .sret rs1 rd)
      (effect : ∀ p l, f (s.withLevel p l) = (s.withLevel p l).sret)
  | csr (new : CsrWord → CsrWord) (rd : RegIx) (csr : BitVec 12) (may : isCsrInstr i = true)
      (effect : ∀ p, f (s.withLevel p s.csrs) = (s.withLevel p s.csrs).csrOp 4 new rd csr)

section Ends
variable {i : Instr} {s : State}

theorem completes_loadX {len n : Nat} {ext : XLen → BitVec (8 * n) → Word} {rd rs1 : RegIx}
    {imm : BitVec 12} (even : 2 ∣ len) : Completes i (·.loadX len n ext rd rs1 imm) s := by
  cases read : s.memRead (s.ea rs1 imm) n with
  | some v =>
    refine .plain ((plain_retX (v := fun u => ext u.cfg.xlen v) len rd even fun _ _ => rfl).congr
      fun p l => ?_)
    have same : (s.withLevel p l).memRead ((s.withLevel p l).ea rs1 imm) n = some v := read
    simp only [State.loadX, same]
  | none =>
    refine .trap (fun _ => .loadAccess) fun p l => ?_
    have same : (s.withLevel p l).memRead ((s.withLevel p l).ea rs1 imm) n = none := read
    simp only [State.loadX, same]

theorem completes_loadS {len : Nat} {rd rs1 : RegIx} {imm : BitVec 12} (even : 2 ∣ len)
    (may : writesSingle i = true) : Completes i (·.loadS len rd rs1 imm) s := by
  cases read : s.memRead (s.ea rs1 imm) 4 with
  | some v =>
    refine .plain (((plain_advance len even).comp
      (plain_setS (v := fun _ => v) rd may fun _ _ => rfl)).congr fun p l => ?_)
    have same : (s.withLevel p l).memRead ((s.withLevel p l).ea rs1 imm) 4 = some v := read
    simp only [State.loadS, same]
  | none =>
    refine .trap (fun _ => .loadAccess) fun p l => ?_
    have same : (s.withLevel p l).memRead ((s.withLevel p l).ea rs1 imm) 4 = none := read
    simp only [State.loadS, same]

theorem completes_loadD {len : Nat} {rd rs1 : RegIx} {imm : BitVec 12} (even : 2 ∣ len)
    (may : writesDouble i = true) : Completes i (·.loadD len rd rs1 imm) s := by
  cases read : s.memRead (s.ea rs1 imm) 8 with
  | some v =>
    refine .plain (((plain_advance len even).comp
      (plain_setD (v := fun _ => v) rd may fun _ _ => rfl)).congr fun p l => ?_)
    have same : (s.withLevel p l).memRead ((s.withLevel p l).ea rs1 imm) 8 = some v := read
    simp only [State.loadD, same]
  | none =>
    refine .trap (fun _ => .loadAccess) fun p l => ?_
    have same : (s.withLevel p l).memRead ((s.withLevel p l).ea rs1 imm) 8 = none := read
    simp only [State.loadD, same]

theorem completes_storeVal {w len n : Nat} {v : State → BitVec w} {rs1 : RegIx} {imm : BitVec 12}
    (even : 2 ∣ len) (may : writesMemory i = true) (blind : ∀ p l, v (s.withLevel p l) = v s) :
    Completes i (fun u => u.storeVal len n (v u) rs1 imm) s := by
  cases write : s.memWrite (s.ea rs1 imm) n (v s) with
  | some t =>
    refine .plain (((plain_advance len even).comp (plain_memWrite (a := fun u => u.ea rs1 imm) may write
      (fun _ _ => rfl) blind)).congr fun p l => ?_)
    have same : (s.withLevel p l).memWrite ((s.withLevel p l).ea rs1 imm) n (v s) =
        some (t.withLevel p l) := by
      rw [memWrite_withLevel]
      exact congrArg _ write
    simp only [State.storeVal, blind, same, Option.getD_some]
  | none =>
    refine .trap (fun _ => .storeAccess) fun p l => ?_
    have same : (s.withLevel p l).memWrite ((s.withLevel p l).ea rs1 imm) n (v s) = none := by
      rw [memWrite_withLevel]
      exact congrArg _ write
    simp only [State.storeVal, blind, same]

theorem completes_loadReserved {n : Nat} {rd rs1 : RegIx} (may : writesReservation i = true) :
    Completes i (·.loadReserved n rd rs1) s := by
  cases read : s.memRead (s.getX rs1) n with
  | some v =>
    refine .plain (((plain_retX (v := fun u => xsext u.cfg.xlen v) 4 rd (by decide) fun _ _ => rfl).comp
      (plain_reserve (a := fun u => u.getX rs1) (valid := true) may (fun hs => getX_fits hs rs1)
        fun _ _ => rfl)).congr fun p l => ?_)
    have same : (s.withLevel p l).memRead ((s.withLevel p l).getX rs1) n = some v := read
    simp only [State.loadReserved, same]
  | none =>
    refine .trap (fun _ => .loadAccess) fun p l => ?_
    have same : (s.withLevel p l).memRead ((s.withLevel p l).getX rs1) n = none := read
    simp only [State.loadReserved, same]

/-- The reservation given up, with its address kept. -/
theorem plain_release (may : writesReservation i = true) :
    Plain i (fun u => { u with resvValid := false }) s :=
  (plain_reserve (a := fun u => u.resvAddr) (valid := false) may (fun hs => hs.resvAddr)
    fun _ _ => rfl).congr fun _ _ => rfl

theorem completes_storeConditional {n : Nat} {rd rs1 rs2 : RegIx} (resv : writesReservation i = true)
    (may : writesMemory i = true) : Completes i (·.storeConditional n rd rs1 rs2) s := by
  cases held : s.resvValid && s.resvAddr == s.getX rs1 with
  | false =>
    refine .plain (((plain_retX (v := fun _ => 1) 4 rd (by decide) fun _ _ => rfl).comp
      (plain_release resv)).congr fun p l => ?_)
    have same : ((s.withLevel p l).resvValid &&
        (s.withLevel p l).resvAddr == (s.withLevel p l).getX rs1) = false := held
    simp only [State.storeConditional, same, Bool.false_eq_true, if_false]
  | true =>
    have same : ∀ p l, ((s.withLevel p l).resvValid &&
        (s.withLevel p l).resvAddr == (s.withLevel p l).getX rs1) = true := fun _ _ => held
    cases write : s.memWrite (s.getX rs1) n (s.getX rs2) with
    | some t =>
      refine .plain (((plain_retX (v := fun _ => 0) 4 rd (by decide) fun _ _ => rfl).comp
        ((plain_release resv).comp (plain_memWrite (a := fun u => u.getX rs1) (v := fun u => u.getX rs2)
          may write (fun _ _ => rfl) fun _ _ => rfl))).congr fun p l => ?_)
      have written : (s.withLevel p l).memWrite ((s.withLevel p l).getX rs1) n
          ((s.withLevel p l).getX rs2) = some (t.withLevel p l) := by
        rw [memWrite_withLevel]
        exact congrArg _ write
      simp only [State.storeConditional, same, if_true, written, Option.getD_some]
    | none =>
      refine .trap (fun _ => .storeAccess) fun p l => ?_
      have denied : (s.withLevel p l).memWrite ((s.withLevel p l).getX rs1) n
          ((s.withLevel p l).getX rs2) = none := by
        rw [memWrite_withLevel]
        exact congrArg _ write
      simp only [State.storeConditional, same, if_true, denied]

theorem completes_amo {n : Nat} {op : BitVec (8 * n) → BitVec (8 * n) → BitVec (8 * n)}
    {rd rs1 rs2 : RegIx} (may : writesMemory i = true) : Completes i (·.amo n op rd rs1 rs2) s := by
  rcases amo_cases s n op rd rs1 rs2 with ⟨old, t, read, write, -⟩ | ⟨denied, -⟩
  · refine .plain (((plain_retX (v := fun u => xsext u.cfg.xlen old) 4 rd (by decide) fun _ _ => rfl).comp
      (plain_memWrite (a := fun u => u.getX rs1) (v := fun u => op old ((u.getX rs2).setWidth (8 * n)))
        may write (fun _ _ => rfl) fun _ _ => rfl)).congr fun p l => ?_)
    have same : (s.withLevel p l).memRead ((s.withLevel p l).getX rs1) n = some old := read
    have written : (s.withLevel p l).memWrite ((s.withLevel p l).getX rs1) n
        (op old (((s.withLevel p l).getX rs2).setWidth (8 * n))) = some (t.withLevel p l) := by
      rw [memWrite_withLevel]
      exact congrArg _ write
    have frame := (memWrite_frame write).1
    simp only [State.amo, same, written, Option.getD_some]
    rw [frame]
    rfl
  · refine .trap (fun _ => .storeAccess) fun p l => ?_
    have same : (s.withLevel p l).memRead ((s.withLevel p l).getX rs1) n = none := denied
    simp only [State.amo, same]

theorem Completes.congr {f g : State → State} (completes : Completes i g s)
    (same : ∀ p l, f (s.withLevel p l) = g (s.withLevel p l)) : Completes i f s := by
  cases completes with
  | plain effect => exact .plain (effect.congr same)
  | trap cause effect => exact .trap cause fun p l => (same p l).trans (effect p l)
  | mret rs1 rd here effect => exact .mret rs1 rd here fun p l => (same p l).trans (effect p l)
  | sret rs1 rd here effect => exact .sret rs1 rd here fun p l => (same p l).trans (effect p l)
  | csr new rd csr may effect => exact .csr new rd csr may fun p => (same p s.csrs).trans (effect p)

theorem completes_opUnknown {len : Nat} (even : 2 ∣ len) : Completes i (opUnknown len) s := by
  cases policy : s.cfg.unknownPolicy with
  | skip =>
    refine .plain ((plain_advance len even).congr fun p l => ?_)
    have same : (s.withLevel p l).cfg.unknownPolicy = .skip := policy
    simp only [opUnknown, same]
  | trap =>
    refine .trap (fun _ => .illegal) fun p l => ?_
    have same : (s.withLevel p l).cfg.unknownPolicy = .trap := policy
    simp only [opUnknown, same]

theorem completes_onlyAt {f : State → State} {xl : XLen} {len : Nat} (even : 2 ∣ len)
    (there : Completes i f s) : Completes i (fun u => onlyAt xl len u (f u)) s := by
  by_cases here : s.cfg.xlen = xl
  · exact there.congr fun p l => onlyAt_eq here
  · have other : ∀ p l, onlyAt xl len (s.withLevel p l) (f (s.withLevel p l)) =
        opUnknown len (s.withLevel p l) := fun _ _ => if_neg here
    exact (completes_opUnknown even).congr other

theorem completes_csrOp {new : State → CsrWord → CsrWord} {rd : RegIx} {csr : BitVec 12}
    (may : isCsrInstr i = true) (blind : ∀ p, new (s.withLevel p s.csrs) = new s) :
    Completes i (fun u => u.csrOp 4 (new u) rd csr) s :=
  .csr (new s) rd csr may fun p => by rw [blind]

end Ends

/-! ### The meaning of every instruction -/

/-- `i` completes in every state. -/
def AlwaysCompletes (i : Instr) : Prop :=
  ∃ f, (∀ s, exec i s = .next (f s)) ∧ ∀ s, Completes i f s

section Meanings
variable {i : Instr}

theorem alwaysCompletes_of_exec {f : State → State} (runs : ∀ s, exec i s = .next (f s))
    (completes : ∀ s, Completes i f s) : AlwaysCompletes i :=
  ⟨f, runs, completes⟩

theorem alwaysCompletes_of_onlyAt {f : State → State} {xl : XLen} {len : Nat}
    (runs : ∀ s, exec i s = .next (onlyAt xl len s (f s))) (even : 2 ∣ len)
    (completes : ∀ s, Completes i f s) : AlwaysCompletes i :=
  ⟨_, runs, fun s => completes_onlyAt even (completes s)⟩

end Meanings

theorem alwaysCompletes (i : Instr) : AlwaysCompletes i := by
  cases i
  case lui | auipc | addi | slti | sltiu | xori | ori | andi | slli | srli | srai | add | sub | sll | slt
      | sltu | xor | srl | sra | or | and | mul | mulh | mulhsu | mulhu | div | divu | rem | remu
      | fleS | fltS | feqS | fclassS | fcvtWS | fcvtWuS | fmvXW | fleD | fltD | feqD | fclassD | fcvtWD
      | fcvtWuD | cAddi4spn | cNop | cAddi | cLi | cAddi16sp | cLui | cSrli | cSrai | cAndi | cSub | cXor
      | cOr | cAnd | cSlli | cMv | cAdd =>
    exact alwaysCompletes_of_exec (fun _ => rfl) fun _ =>
      .plain (plain_retX _ _ (by decide) fun _ _ => rfl)
  case addiw | slliw | srliw | sraiw | addw | subw | sllw | srlw | sraw | mulw | divw | divuw | remw | remuw
      | fcvtLS | fcvtLuS | fcvtLD | fcvtLuD | fmvXD | cAddiw | cSubw | cAddw =>
    exact alwaysCompletes_of_onlyAt (fun _ => rfl) (by decide) fun _ =>
      .plain (plain_retX _ _ (by decide) fun _ _ => rfl)
  case jal | cJ => exact alwaysCompletes_of_exec (fun _ => rfl) fun _ => .plain (plain_jal ..)
  case cJal =>
    exact alwaysCompletes_of_onlyAt (fun _ => rfl) (by decide) fun _ => .plain (plain_jal ..)
  case jalr | cJr | cJalr =>
    exact alwaysCompletes_of_exec (fun _ => rfl) fun _ => .plain (plain_jalr ..)
  case beq | bne | blt | bge | bltu | bgeu | cBeqz | cBnez =>
    exact alwaysCompletes_of_exec (fun _ => rfl) fun _ =>
      .plain (plain_branch _ _ (by decide) fun _ _ => rfl)
  case lb | lh | lw | lbu | lhu | cLw | cLwsp =>
    exact alwaysCompletes_of_exec (fun _ => rfl) fun _ => completes_loadX (by decide)
  case ld | lwu | cLd | cLdsp =>
    exact alwaysCompletes_of_onlyAt (fun _ => rfl) (by decide) fun _ => completes_loadX (by decide)
  case sb | sh | sw | fsw | fsd | cFsd | cSw | cFsdsp | cSwsp =>
    exact alwaysCompletes_of_exec (fun _ => rfl) fun _ =>
      completes_storeVal (by decide) rfl fun _ _ => rfl
  case sd | cFsw | cSd | cFswsp | cSdsp =>
    exact alwaysCompletes_of_onlyAt (fun _ => rfl) (by decide) fun _ =>
      completes_storeVal (by decide) rfl fun _ _ => rfl
  case fence | fenceI | fenceSystem | wfi | sfenceVma =>
    exact alwaysCompletes_of_exec (fun _ => rfl) fun _ => .plain (plain_advance _ (by decide))
  case ecall =>
    exact alwaysCompletes_of_exec (fun _ => rfl) fun _ => .trap (fun p => .ecall p) fun _ _ => rfl
  case ebreak | cEbreak =>
    exact alwaysCompletes_of_exec (fun _ => rfl) fun _ => .trap (fun _ => .breakpoint) fun _ _ => rfl
  case uret =>
    exact alwaysCompletes_of_exec (fun _ => rfl) fun _ => .trap (fun _ => .illegal) fun _ _ => rfl
  case mret => exact alwaysCompletes_of_exec (fun _ => rfl) fun _ => .mret _ _ rfl fun _ _ => rfl
  case sret => exact alwaysCompletes_of_exec (fun _ => rfl) fun _ => .sret _ _ rfl fun _ _ => rfl
  case csrrw | csrrs | csrrc | csrrwi | csrrsi | csrrci =>
    exact alwaysCompletes_of_exec (fun _ => rfl) fun _ => completes_csrOp rfl fun _ => rfl
  case lrD =>
    exact alwaysCompletes_of_onlyAt (fun _ => rfl) (by decide) fun _ => completes_loadReserved rfl
  case scD =>
    exact alwaysCompletes_of_onlyAt (fun _ => rfl) (by decide) fun _ => completes_storeConditional rfl rfl
  case amoswapD | amoaddD | amoxorD | amoandD | amoorD | amominD | amomaxD | amominuD | amomaxuD =>
    exact alwaysCompletes_of_onlyAt (fun _ => rfl) (by decide) fun _ => completes_amo rfl
  case lrW => exact alwaysCompletes_of_exec (fun _ => rfl) fun _ => completes_loadReserved rfl
  case scW =>
    exact alwaysCompletes_of_exec (fun _ => rfl) fun _ => completes_storeConditional rfl rfl
  case amoswapW | amoaddW | amoxorW | amoandW | amoorW | amominW | amomaxW | amominuW | amomaxuW =>
    exact alwaysCompletes_of_exec (fun _ => rfl) fun _ => completes_amo rfl
  case flw => exact alwaysCompletes_of_exec (fun _ => rfl) fun _ => completes_loadS (by decide) rfl
  case cFlw | cFlwsp =>
    exact alwaysCompletes_of_onlyAt (fun _ => rfl) (by decide) fun _ => completes_loadS (by decide) rfl
  case fld | cFld | cFldsp =>
    exact alwaysCompletes_of_exec (fun _ => rfl) fun _ => completes_loadD (by decide) rfl
  case fmaddS | fmsubS | fnmsubS | fnmaddS | faddS | fsubS | fmulS | fdivS | fsqrtS | fsgnjS | fsgnjnS
      | fsgnjxS | fminS | fmaxS | fcvtSW | fcvtSWu | fmvWX | fcvtSD =>
    exact alwaysCompletes_of_exec (fun _ => rfl) fun _ => .plain (plain_retS _ rfl fun _ _ => rfl)
  case fcvtSL | fcvtSLu =>
    exact alwaysCompletes_of_onlyAt (fun _ => rfl) (by decide) fun _ =>
      .plain (plain_retS _ rfl fun _ _ => rfl)
  case fmaddD | fmsubD | fnmsubD | fnmaddD | faddD | fsubD | fmulD | fdivD | fsqrtD | fsgnjD | fsgnjnD
      | fsgnjxD | fminD | fmaxD | fcvtDW | fcvtDWu | fcvtDS =>
    exact alwaysCompletes_of_exec (fun _ => rfl) fun _ => .plain (plain_retD _ rfl fun _ _ => rfl)
  case fcvtDL | fcvtDLu | fmvDX =>
    exact alwaysCompletes_of_onlyAt (fun _ => rfl) (by decide) fun _ =>
      .plain (plain_retD _ rfl fun _ _ => rfl)

end Sys2Proof.Machine
end

section
/-! PROOF. Trap entry, field by field (60_exceptions R480 to R482), and the instructions that are nothing
but a trap (45_system R280 to R282). -/

namespace Sys2Proof.Machine

open Sys2Proof.Claim

section Entry
variable (s : State) (c : Cause)

theorem trapsToS_iff : s.trapsToS = true ↔ s.cfg.trapCsrs = .byLevel ∧ s.priv = 1 := by
  unfold State.trapsToS
  cases s.cfg.trapCsrs <;> simp

/-- The CSRs that a trap to the supervisor pair writes and leaves. -/
theorem trap_of_trapsToS (toS : s.trapsToS = true) :
    (s.trap c).sepc = s.pc.setWidth 32 ∧ (s.trap c).scause = causeCode c ∧
      (s.trap c).mepc = s.mepc ∧ (s.trap c).mcause = s.mcause := by
  simp [State.trap, State.recordTrap, toS]

theorem trap_of_not_trapsToS (toM : ¬s.trapsToS = true) :
    (s.trap c).mepc = s.pc.setWidth 32 ∧ (s.trap c).mcause = causeCode c ∧
      (s.trap c).sepc = s.sepc ∧ (s.trap c).scause = s.scause := by
  simp [State.trap, State.recordTrap, toM]

theorem trap_mstatus_of_none (policy : s.cfg.trapStack = .none) : (s.trap c).mstatus = s.mstatus := by
  simp [State.trap, State.stackTrap, policy]

theorem trap_mstatus_of_standard (policy : s.cfg.trapStack = .standard) :
    (s.trap c).mstatus = mstatusOnTrap s.priv s.mstatus := by
  simp [State.trap, State.stackTrap, policy]

theorem recordTrap_frame :
    let t := s.recordTrap c
    t = { s with sepc := t.sepc, scause := t.scause, mepc := t.mepc, mcause := t.mcause } := by
  unfold State.recordTrap
  split <;> rfl

theorem stackTrap_frame : s.stackTrap = { s with mstatus := s.stackTrap.mstatus } := by
  unfold State.stackTrap
  split <;> rfl

theorem trap_frame :
    let t := s.trap c
    t = { s with
      sepc := t.sepc, scause := t.scause, mepc := t.mepc, mcause := t.mcause,
      mstatus := t.mstatus, priv := t.priv, pc := t.pc } := by
  unfold State.trap
  rw [stackTrap_frame, recordTrap_frame]

end Entry

/-! ### mstatus under TRAP_STACK = standard (R482) -/

theorem getLsbD_mstatusOnTrap (p : BitVec 2) (m : CsrWord) (k : Nat) :
    (mstatusOnTrap p m).getLsbD k =
      if k = 3 then false
      else if k = 7 then m.getLsbD 3
      else if 11 ≤ k ∧ k < 13 then p.getLsbD (k - 11)
      else m.getLsbD k := by
  rw [mstatusOnTrap, getLsbD_setField_bit (by decide), getLsbD_setField_bit (by decide),
    getLsbD_setField (by decide), mie, BitVec.getLsbD_extractLsb']
  rfl

/-- MPP holds the level of the trap. -/
theorem extractLsb'_mstatusOnTrap (p : BitVec 2) (m : CsrWord) :
    (mstatusOnTrap p m).extractLsb' 11 2 = p := by
  ext j hj
  rw [BitVec.getElem_extractLsb', getLsbD_mstatusOnTrap, if_neg (by omega), if_neg (by omega),
    if_pos (by omega), Nat.add_sub_cancel_left, BitVec.getLsbD_eq_getElem]

end Sys2Proof.Machine

namespace Sys2Proof.Proofs

open Sys2Proof.Machine

/-- Settles O24: the two pairs of CSRs by where the trap goes, mstatus by TRAP_STACK. -/
theorem trapEntry : Obligations.TrapEntry := by
  refine ⟨⟨rfl, rfl, rfl, rfl, rfl, by decide⟩, fun s c => ?_⟩
  refine ⟨fun toS => trap_of_trapsToS s c ((trapsToS_iff s).2 toS),
    fun toM => trap_of_not_trapsToS s c (mt (trapsToS_iff s).1 toM), trap_mstatus_of_none s c,
    fun policy => ?_, trap_priv s c, ?_, trap_frame s c⟩
  · rw [trap_mstatus_of_standard s c policy]
    refine ⟨extractLsb'_mstatusOnTrap _ _, getLsbD_mstatusOnTrap _ _ 7, getLsbD_mstatusOnTrap _ _ 3,
      fun k not3 not7 not11 not12 => ?_⟩
    rw [getLsbD_mstatusOnTrap, if_neg not3, if_neg not7, if_neg (by omega)]
  · rw [trap_pc, xzext_csr]

/-- Settles O25: each of them is trap entry, by its meaning. -/
theorem trappingInstructions : Obligations.TrappingInstructions := fun _ _ _ =>
  ⟨⟨_, rfl, rfl⟩, ⟨_, rfl, rfl⟩, ⟨_, rfl, rfl⟩, ⟨_, rfl, rfl⟩⟩

end Sys2Proof.Proofs
end

section
/-! PROOF. What executing any instruction leaves unchanged (10_state sections 3, 5, 6 and 7, 20_memory
section 6, 60_exceptions section 4), by the way it completes. -/

namespace Sys2Proof.Machine

open Sys2Proof.Claim

/-- An instruction that completes in `t` completes in one of the ways of `Completes`. -/
theorem completes_of_exec {i : Instr} {s t : State} (h : exec i s = .next t) :
    ∃ f, (∀ u, exec i u = .next (f u)) ∧ Completes i f s ∧ t = f s := by
  obtain ⟨f, runs, completes⟩ := alwaysCompletes i
  exact ⟨f, runs, completes s, Host.Outcome.next.inj (h.symm.trans (runs s))⟩

theorem exec_mret {s t : State} {rs1 rd : RegIx} (h : exec (.mret rs1 rd) s = .next t) : t = s.mret :=
  Host.Outcome.next.inj h.symm

theorem exec_sret {s t : State} {rs1 rd : RegIx} (h : exec (.sret rs1 rd) s = .next t) : t = s.sret :=
  Host.Outcome.next.inj h.symm

section Rules
variable {i : Instr} {f : State → State} {s : State}

/-- The state an instruction completes in. -/
theorem Completes.ends (completes : Completes i f s) :
    Plain i f s ∨ (∃ c, f s = s.trap c) ∨ ((∃ rs1 rd, i = .mret rs1 rd) ∧ f s = s.mret) ∨
      ((∃ rs1 rd, i = .sret rs1 rd) ∧ f s = s.sret) ∨
      (isCsrInstr i = true ∧ ∃ new rd csr, f s = s.csrOp 4 new rd csr) := by
  cases completes with
  | plain effect => exact .inl effect
  | trap cause effect => exact .inr (.inl ⟨_, effect s.priv s.csrs⟩)
  | mret rs1 rd here effect => exact .inr (.inr (.inl ⟨⟨_, _, here⟩, effect s.priv s.csrs⟩))
  | sret rs1 rd here effect => exact .inr (.inr (.inr (.inl ⟨⟨_, _, here⟩, effect s.priv s.csrs⟩)))
  | csr new rd csr may effect => exact .inr (.inr (.inr (.inr ⟨may, _, _, _, effect s.priv⟩)))

theorem Completes.reservation (completes : Completes i f s) (keeps : writesReservation i = false) :
    (f s).resvAddr = s.resvAddr ∧ (f s).resvValid = s.resvValid := by
  rcases completes.ends with plain | ⟨c, same⟩ | ⟨-, same⟩ | ⟨-, same⟩ | ⟨-, new, rd, csr, same⟩
  · exact plain.reservation keeps
  all_goals simp [same, State.csrOp]

theorem Completes.memory (completes : Completes i f s) (keeps : writesMemory i = false) :
    (f s).mem = s.mem := by
  rcases completes.ends with plain | ⟨c, same⟩ | ⟨-, same⟩ | ⟨-, same⟩ | ⟨-, new, rd, csr, same⟩
  · exact plain.memory keeps
  all_goals simp [same, State.csrOp]

theorem Completes.single (completes : Completes i f s) (keeps : writesSingle i = false) :
    (f s).fs = s.fs := by
  rcases completes.ends with plain | ⟨c, same⟩ | ⟨-, same⟩ | ⟨-, same⟩ | ⟨-, new, rd, csr, same⟩
  · exact plain.single keeps
  all_goals simp [same, State.csrOp]

theorem Completes.double (completes : Completes i f s) (keeps : writesDouble i = false) :
    (f s).fd = s.fd := by
  rcases completes.ends with plain | ⟨c, same⟩ | ⟨-, same⟩ | ⟨-, same⟩ | ⟨-, new, rd, csr, same⟩
  · exact plain.double keeps
  all_goals simp [same, State.csrOp]

/-- No instruction has both a single-precision and a double-precision destination. -/
theorem writesSingle_or_writesDouble_eq_false (i : Instr) :
    writesSingle i = false ∨ writesDouble i = false := by
  cases i <;> simp [writesSingle, writesDouble]

theorem Completes.level (completes : Completes i f s) (notMret : ∀ rs1 rd, i ≠ .mret rs1 rd)
    (notSret : ∀ rs1 rd, i ≠ .sret rs1 rd) :
    (f s).priv = s.priv ∨ (f s).priv = 3 ∧ ∃ c, f s = s.trap c := by
  rcases completes.ends with plain | ⟨c, same⟩ | ⟨⟨rs1, rd, here⟩, -⟩ | ⟨⟨rs1, rd, here⟩, -⟩ |
    ⟨-, new, rd, csr, same⟩
  · exact .inl (by rw [plain.frame])
  · exact .inr ⟨same ▸ trap_priv s c, c, same⟩
  · exact absurd here (notMret rs1 rd)
  · exact absurd here (notSret rs1 rd)
  · exact .inl (by simp [same, State.csrOp])

end Rules

/-! ### The same instruction at another level and with other inert CSRs -/

section Levels
variable (s : State) (c : Cause) (p : BitVec 2) (l : List (Nat × CsrWord)) (a : BitVec 12)

/-- Trap entry changes the CSRs that 60_exceptions R482 names only. -/
theorem getCsr_trap (kept : a ∉ [0x141#12, 0x142#12, 0x300#12, 0x341#12, 0x342#12]) :
    (s.trap c).getCsr a = s.getCsr a := by
  simp only [List.mem_cons, List.not_mem_nil, or_false, not_or] at kept
  obtain ⟨notSepc, notScause, notMstatus, notMepc, notMcause⟩ := kept
  rw [trap_frame]
  unfold State.getCsr
  split <;> first | contradiction | rfl

theorem recordTrap_withCsrs :
    State.recordTrap { s with csrs := l } c = { s.recordTrap c with csrs := l } := by
  unfold State.recordTrap
  rw [show State.trapsToS { s with csrs := l } = s.trapsToS from rfl]
  split <;> rfl

theorem stackTrap_withCsrs : State.stackTrap { s with csrs := l } = { s.stackTrap with csrs := l } := by
  unfold State.stackTrap
  cases s.cfg.trapStack <;> rfl

theorem trap_withCsrs : State.trap { s with csrs := l } c = { s.trap c with csrs := l } := by
  unfold State.trap
  rw [recordTrap_withCsrs, stackTrap_withCsrs]

theorem csrOp_withLevel (len : Nat) (new : CsrWord → CsrWord) (rd : RegIx) (csr : BitVec 12) :
    (s.withLevel p s.csrs).csrOp len new rd csr = { s.csrOp len new rd csr with priv := p } := by
  unfold State.csrOp State.setX State.setCsr
  split <;> split <;> rfl

end Levels

end Sys2Proof.Machine

namespace Sys2Proof.Proofs

open Sys2Proof.Machine Sys2Proof.Claim

/-- Settles O17, by the way the instruction completes. -/
theorem onlyLrAndScChangeTheReservation : Obligations.OnlyLrAndScChangeTheReservation := by
  intro i s t keeps h
  obtain ⟨f, -, completes, rfl⟩ := completes_of_exec h
  exact completes.reservation keeps

/-- Settles O18: the two trap returns by their meaning, any other instruction by the way it completes. -/
theorem privilegeTransitions : Obligations.PrivilegeTransitions := by
  intro i s t h
  split
  case h_1 =>
    rw [exec_mret h]
    rfl
  case h_2 =>
    rw [exec_sret h]
    exact sretPriv_eq _
  case h_3 notMret notSret =>
    obtain ⟨f, -, completes, rfl⟩ := completes_of_exec h
    exact completes.level (fun rs1 rd here => notMret rs1 rd here) fun rs1 rd here => notSret rs1 rd here

/-- Settles O19: the instruction completes at the other level in the same way. -/
theorem privilegeGatesNothing : Obligations.PrivilegeGatesNothing := by
  intro i s t p h
  obtain ⟨f, runs, completes, rfl⟩ := completes_of_exec h
  refine ⟨f (s.withLevel p s.csrs), runs _, ?_⟩
  cases completes with
  | plain effect =>
    have csrs : (f s).csrs = s.csrs := by rw [effect.frame]
    rw [effect.level, ← csrs]
    exact ⟨rfl, rfl, rfl, rfl, rfl, rfl, rfl, fun _ _ => rfl⟩
  | trap cause effect =>
    rw [effect, show f s = s.trap (cause s.priv) from effect s.priv s.csrs]
    refine ⟨?x, ?pc, ?fs, ?fd, ?mem, ?addr, ?valid, fun a kept => ?csrs⟩
    case csrs =>
      rw [getCsr_trap _ _ _ kept, getCsr_trap _ _ _ kept]
      rfl
    all_goals simp [State.withLevel]
  | mret rs1 rd here effect =>
    rw [effect, show f s = s.mret from effect s.priv s.csrs]
    exact ⟨rfl, rfl, rfl, rfl, rfl, rfl, rfl, fun _ _ => rfl⟩
  | sret rs1 rd here effect =>
    rw [effect, show f s = s.sret from effect s.priv s.csrs]
    exact ⟨rfl, rfl, rfl, rfl, rfl, rfl, rfl, fun _ _ => rfl⟩
  | csr new rd csr may effect =>
    rw [effect, show f s = s.csrOp 4 new rd csr from effect s.priv, csrOp_withLevel]
    exact ⟨rfl, rfl, rfl, rfl, rfl, rfl, rfl, fun _ _ => rfl⟩

/-- Settles O20, by the way the instruction completes. -/
theorem csrsChangeOnlyByTheListedEvents : Obligations.CsrsChangeOnlyByTheListedEvents := by
  intro i s t notCsr h
  obtain ⟨f, runs, completes, rfl⟩ := completes_of_exec h
  have other (l) : exec i { s with csrs := l } = .next (f (s.withLevel s.priv l)) := runs _
  cases completes with
  | plain effect =>
    have frame := effect.frame
    refine ⟨by rw [frame], fun l => ?_, by rw [frame], .inl (by rw [frame]), .inl (by rw [frame]),
      .inl ⟨by rw [frame], by rw [frame]⟩, .inl ⟨by rw [frame], by rw [frame]⟩⟩
    have level : (f s).priv = s.priv := by rw [frame]
    rw [other, effect.level, ← level]
    rfl
  | trap cause effect =>
    have here : f s = s.trap (cause s.priv) := effect s.priv s.csrs
    rw [here]
    refine ⟨trap_csrs .., fun l => ?_, trap_mtvec .., .inl (trap_sstatus ..), ?_, ?_, ?_⟩
    · rw [other, effect]
      exact congrArg _ (trap_withCsrs s (cause s.priv) l)
    · cases policy : s.cfg.trapStack with
      | none => exact .inl (trap_mstatus_of_none s _ policy)
      | standard => exact .inr (.inr ⟨rfl, _, rfl⟩)
    · by_cases toS : s.trapsToS = true
      · obtain ⟨-, -, mepc, mcause⟩ := trap_of_trapsToS s (cause s.priv) toS
        exact .inl ⟨mepc, mcause⟩
      · exact .inr ⟨mt (trapsToS_iff s).2 toS, _, rfl⟩
    · by_cases toS : s.trapsToS = true
      · obtain ⟨byLevel, supervisor⟩ := (trapsToS_iff s).1 toS
        exact .inr ⟨byLevel, supervisor, _, rfl⟩
      · obtain ⟨-, -, sepc, scause⟩ := trap_of_not_trapsToS s (cause s.priv) toS
        exact .inl ⟨sepc, scause⟩
  | mret rs1 rd isMret effect =>
    rw [show f s = s.mret from effect s.priv s.csrs]
    exact ⟨rfl, fun l => (other l).trans (congrArg _ (effect s.priv l)), rfl, .inl rfl,
      .inr (.inl ⟨rs1, rd, isMret⟩), .inl ⟨rfl, rfl⟩, .inl ⟨rfl, rfl⟩⟩
  | sret rs1 rd isSret effect =>
    rw [show f s = s.sret from effect s.priv s.csrs]
    exact ⟨rfl, fun l => (other l).trans (congrArg _ (effect s.priv l)), rfl,
      .inr ⟨rs1, rd, isSret⟩, .inl rfl, .inl ⟨rfl, rfl⟩, .inl ⟨rfl, rfl⟩⟩
  | csr new rd csr may effect => exact absurd (may.symm.trans notCsr) Bool.noConfusion

/-- Settles O21, by the way the instruction completes. -/
theorem onlyStoresChangeMemory : Obligations.OnlyStoresChangeMemory := by
  intro i s t keeps h
  obtain ⟨f, -, completes, rfl⟩ := completes_of_exec h
  exact completes.memory keeps

/-- Settles O22, by the way the instruction completes. -/
theorem floatBanksAreIndependent : Obligations.FloatBanksAreIndependent := by
  intro i s t h
  obtain ⟨f, -, completes, rfl⟩ := completes_of_exec h
  exact ⟨completes.single, completes.double,
    (writesSingle_or_writesDouble_eq_false i).imp completes.single completes.double⟩

end Sys2Proof.Proofs
end

section
/-! PROOF. What every step keeps (10_state, 00_scope section 3, 20_memory section 7): the fetch takes a
word and counts, and what runs then keeps the shape of the state, the parameters and an even pc. -/

namespace Sys2Proof.Machine

open Sys2Proof.Claim

/-! ### The parts of a step -/

/-- `u` is `s` with one more step counted and its word taken (20_memory R64, 70_reset_and_hazards R526). -/
structure Takes (s u : State) : Prop where
  frame : u = { s with stream := u.stream, steps := s.steps + 1, free := s.free + 1 }
  stream : s.cfg.fetch = .stream → ∃ raw, s.stream = raw :: u.stream
  memory : s.cfg.fetch = .memory → u.stream = s.stream

/-- What a step runs in the state `u` that the fetch leaves: a fetch fault, a word of kind Unknown or an
instruction. -/
inductive Ran (u : State) : State → Prop
  | accessFault : Ran u (u.trap .instrAccess)
  | unknown (r : Reject) : Ran u (opUnknown r.len u)
  | instr (i : Instr) (t : State) (runs : exec i u = .next t) : Ran u t

theorem takes_of_word {s u : State} {raw : IWord} (h : s.fetch = .word raw u) : Takes s u := by
  unfold State.fetch at h
  split at h
  case h_1 mode =>
    split at h
    case h_1 => cases h
    case h_2 words =>
      cases h
      exact ⟨rfl, fun _ => ⟨raw, words⟩, fun other => nomatch mode.symm.trans other⟩
  case h_2 mode =>
    split at h
    case h_1 =>
      cases h
      exact ⟨rfl, fun other => (nomatch mode.symm.trans other), fun _ => rfl⟩
    case h_2 => cases h

theorem takes_of_accessFault {s u : State} (h : s.fetch = .accessFault u) : Takes s u := by
  unfold State.fetch at h
  split at h
  case h_1 =>
    split at h <;> cases h
  case h_2 mode =>
    split at h
    case h_1 => cases h
    case h_2 =>
      cases h
      exact ⟨rfl, fun other => (nomatch mode.symm.trans other), fun _ => rfl⟩

theorem ran_of_runWord {u t : State} {raw : IWord} (h : runWord raw u = .next t) : Ran u t := by
  unfold runWord at h
  split at h
  case h_1 i _ => exact .instr i t h
  case h_2 r _ =>
    cases h
    exact .unknown r

theorem step_cases {s t : State} (h : step s = .next t) : ∃ u, Takes s u ∧ Ran u t := by
  unfold step at h
  split at h
  case isTrue => cases h
  case isFalse =>
    split at h
    case h_1 => cases h
    case h_2 u fault =>
      cases h
      exact ⟨u, takes_of_accessFault fault, .accessFault⟩
    case h_3 raw u word => exact ⟨u, takes_of_word word, ran_of_runWord h⟩

/-- Each of them completes as some instruction does. -/
theorem Ran.completes {u t : State} (ran : Ran u t) : ∃ i f, Completes i f u ∧ t = f u := by
  cases ran with
  | accessFault => exact ⟨.cEbreak, (·.trap .instrAccess), .trap (fun _ => .instrAccess) fun _ _ => rfl, rfl⟩
  | unknown r =>
    have even : 2 ∣ r.len := by cases r <;> simp [Reject.len]
    exact ⟨.cEbreak, _, completes_opUnknown even, rfl⟩
  | instr i t runs =>
    obtain ⟨f, -, completes, same⟩ := completes_of_exec runs
    exact ⟨i, f, completes, same⟩

/-! ### What is kept, whichever way the instruction completes -/

section Kept
variable {i : Instr} {f : State → State} {s : State}

theorem Completes.parameters (completes : Completes i f s) :
    (f s).cfg = s.cfg ∧ (f s).steps = s.steps ∧ (f s).stream = s.stream := by
  rcases completes.ends with plain | ⟨c, same⟩ | ⟨-, same⟩ | ⟨-, same⟩ | ⟨-, new, rd, csr, same⟩
  · rw [plain.frame]
    exact ⟨rfl, rfl, rfl⟩
  all_goals simp [same, State.csrOp]

theorem wf_trap (c : Cause) (hs : s.Wf) : (s.trap c).Wf := by
  obtain ⟨x, x0, pc, resvAddr, mem, csrs, live⟩ := hs
  rw [trap_frame]
  refine ⟨x, x0, ?_, resvAddr, mem, csrs, live⟩
  rw [trap_pc]
  exact xzext_fits ..

theorem wf_setCsr (a : BitVec 12) (v : CsrWord) (hs : s.Wf) : (s.setCsr a v).Wf := by
  obtain ⟨x, x0, pc, resvAddr, mem, csrs, live⟩ := hs
  rcases csr_cases a with rfl | rfl | rfl | rfl | rfl | rfl | rfl | inert
  iterate 7 · exact ⟨x, x0, pc, resvAddr, mem, csrs, live⟩
  rw [setCsr_inert inert]
  refine ⟨x, x0, pc, resvAddr, mem, sparsePut_wf csrs (Nat.zero_le _) a.isLt, fun p stored => ?_⟩
  rcases sparsePut_mem stored with old | here
  · exact live p old
  · exact here ▸ inert

theorem wf_csrOp (new : CsrWord → CsrWord) (rd : RegIx) (csr : BitVec 12) (hs : s.Wf) :
    (s.csrOp 4 new rd csr).Wf :=
  (plain_advance (i := .cEbreak) 4 (by decide)).wf (wf_setCsr csr _ (wf_setX rd _ hs))

theorem Completes.wf (completes : Completes i f s) (hs : s.Wf) : (f s).Wf := by
  rcases completes.ends with plain | ⟨c, same⟩ | ⟨-, same⟩ | ⟨-, same⟩ | ⟨-, new, rd, csr, same⟩
  · exact plain.wf hs
  all_goals rw [same]
  · exact wf_trap c hs
  · exact ⟨hs.x, hs.x0, xzext_fits .., hs.resvAddr, hs.mem, hs.csrs, hs.live⟩
  · exact ⟨hs.x, hs.x0, xzext_fits .., hs.resvAddr, hs.mem, hs.csrs, hs.live⟩
  · exact wf_csrOp new rd csr hs

theorem getLsbD_zero_vector (xl : XLen) {v : CsrWord} (even : v.getLsbD 0 = false) :
    (xzext xl v).getLsbD 0 = false := by
  rw [xzext_csr, BitVec.getLsbD_setWidth, even]
  rfl

theorem Completes.even (completes : Completes i f s) (hs : s.PcEven) (vectors : s.VectorsEven) :
    (f s).PcEven := by
  obtain ⟨mtvec, mepc, sepc⟩ := vectors
  rcases completes.ends with plain | ⟨c, same⟩ | ⟨-, same⟩ | ⟨-, same⟩ | ⟨-, new, rd, csr, same⟩
  · exact plain.even hs
  all_goals rw [same, State.PcEven]
  · rw [trap_pc]
    exact getLsbD_zero_vector _ mtvec
  · exact getLsbD_zero_vector _ mepc
  · exact getLsbD_zero_vector _ sepc
  · rw [csrOp_pc, ← nextPc_eq_after]
    exact getLsbD_zero_nextPc 4 (by decide) hs

end Kept

theorem Takes.wf {s u : State} (takes : Takes s u) (hs : s.Wf) : u.Wf := by
  rw [takes.frame]
  exact ⟨hs.x, hs.x0, hs.pc, hs.resvAddr, hs.mem, hs.csrs, hs.live⟩

end Sys2Proof.Machine

namespace Sys2Proof.Proofs

open Sys2Proof.Machine Sys2Proof.Claim

/-- Settles O14: the fetch changes no data, and every way to complete keeps the shape. -/
theorem stepsKeepTheShapeOfTheState : Obligations.StepsKeepTheShapeOfTheState := by
  intro s t hs h
  obtain ⟨u, takes, ran⟩ := step_cases h
  obtain ⟨i, f, completes, rfl⟩ := ran.completes
  exact completes.wf (takes.wf hs)

/-- Settles O15: jumps and branches go to even offsets, and traps and trap returns to even vectors. -/
theorem stepsKeepThePcEven : Obligations.StepsKeepThePcEven := by
  intro s t hs vectors h
  obtain ⟨u, takes, ran⟩ := step_cases h
  obtain ⟨i, f, completes, rfl⟩ := ran.completes
  rw [takes.frame] at completes ⊢
  exact completes.even hs vectors

/-- Settles O16: the fetch takes the word and counts, and nothing that runs then changes either. -/
theorem stepsKeepTheParameters : Obligations.StepsKeepTheParameters := by
  intro s t h
  obtain ⟨u, takes, ran⟩ := step_cases h
  obtain ⟨i, f, completes, rfl⟩ := ran.completes
  obtain ⟨cfg, steps, stream⟩ := completes.parameters
  rw [cfg, steps, stream]
  exact ⟨by rw [takes.frame], by rw [takes.frame], takes.stream, takes.memory⟩

/-- Settles O13: the reset values are those of an empty state. -/
theorem resetHasTheShapeOfAState : Obligations.ResetHasTheShapeOfAState := by
  intro cfg
  refine ⟨⟨fun r => ?_, ?_, zero_fits _, zero_fits _, rfl, rfl, fun _ stored => ?_⟩, ?_, ?_⟩
  · simpa [State.resetFor] using zero_fits cfg.xlen
  · simp [State.resetFor]
  · cases stored
  · exact BitVec.getLsbD_zero
  · exact ⟨BitVec.getLsbD_zero, BitVec.getLsbD_zero, BitVec.getLsbD_zero⟩

end Sys2Proof.Proofs
end

section
/-! PROOF. One turn of the run loop (20_memory section 7, 70_reset_and_hazards section 2): what the fetch
answers, what the step then runs, and where the run ends. -/

namespace Sys2Proof.Machine

open Sys2Proof.Claim

section Fetches
variable {s : State}

/-! ### Fetching from memory -/

theorem isCompressed_setWidth (lo : BitVec 16) :
    isCompressed (lo.setWidth 32) = false ↔ lo.extractLsb' 0 2 = 3#2 := by
  have low : (lo.setWidth 32).extractLsb' 0 2 = lo.extractLsb' 0 2 := by
    ext k hk
    have word : k < 32 := by omega
    simp [word]
  rw [isCompressed, low, bne_eq_false_iff_eq]

theorem toNat_secondHalf (s : State) : s.secondHalf.toNat = (after s 2).toNat := by
  rw [State.secondHalf, nextPc_eq_after, BitVec.toNat_setWidth_of_le (xlen_bits_le _)]

theorem fetchMem_of_allowed (first : Allowed s s.pc.toNat 2)
    (second : (loaded s s.pc.toNat 2).extractLsb' 0 2 = 3#2 → Allowed s (after s 2).toNat 2) :
    s.fetchMem = some (fetchedWord s) := by
  unfold State.fetchMem
  simp only [memRead_of_allowed first]
  by_cases long : (loaded s s.pc.toNat 2).extractLsb' 0 2 = 3#2
  · have notShort := (isCompressed_setWidth _).2 long
    have allowed := second long
    rw [← toNat_secondHalf] at allowed
    simp only [notShort, memRead_of_allowed allowed, toNat_secondHalf, fetchedWord, long]
    rfl
  · have short := Bool.eq_true_of_not_eq_false (mt (isCompressed_setWidth _).1 long)
    simp only [short, fetchedWord, long]
    rfl

theorem fetchMem_of_denied (denied : Denied s s.pc.toNat 2 ∨ Allowed s s.pc.toNat 2 ∧
    (loaded s s.pc.toNat 2).extractLsb' 0 2 = 3#2 ∧ Denied s (after s 2).toNat 2) :
    s.fetchMem = none := by
  unfold State.fetchMem
  rcases denied with first | ⟨allowed, long, second⟩
  · simp only [memRead_eq_none_iff_denied.2 first]
  · rw [← toNat_secondHalf] at second
    simp only [memRead_of_allowed allowed, (isCompressed_setWidth _).2 long,
      memRead_eq_none_iff_denied.2 second]
    rfl

/-! ### What the step runs -/

section Running
variable (running : s.runEnded = false)
include running

theorem step_of_stream {raw : IWord} {rest : List IWord} (mode : s.cfg.fetch = .stream)
    (words : s.stream = raw :: rest) : step s = runWord raw { s.tick with stream := rest } := by
  simp only [step, running, State.fetch, mode, words]
  rfl

theorem step_of_fetchMem {raw : IWord} (mode : s.cfg.fetch = .memory)
    (fetched : s.fetchMem = some raw) : step s = runWord raw s.tick := by
  simp only [step, running, State.fetch, mode, fetched]
  rfl

theorem step_of_denied (mode : s.cfg.fetch = .memory) (denied : s.fetchMem = none) :
    step s = .next (s.tick.trap .instrAccess) := by
  simp only [step, running, State.fetch, mode, denied]
  rfl

end Running

end Fetches

theorem runWord_of_decode {raw : IWord} {u : State} {i : Instr}
    (known : decode u.cfg.xlen raw = .ok i) : runWord raw u = exec i u := by
  rw [runWord, known]

/-- A refused word has the length that its low bits say (30_encoding R71, 40_compressed R121). -/
theorem reject_len {xl : XLen} {raw : IWord} {r : Reject} (unknown : decode xl raw = .error r) :
    r.len = if raw.extractLsb' 0 2 = 3#2 then 4 else 2 := by
  by_cases long : raw.extractLsb' 0 2 = 3#2
  · rw [if_pos long]
    have notShort : ¬isCompressed raw = true := fun short => isCompressed_eq_true_iff.1 short long
    rw [decode, if_neg notShort] at unknown
    split at unknown <;> cases unknown
    rfl
  · rw [if_neg long]
    rw [decode_eq_of_short xl long] at unknown
    split at unknown <;> cases unknown
    rfl

/-- A word of kind Unknown, by UNKNOWN_POLICY (45_system R305). -/
theorem runWord_of_unknown {raw : IWord} {u : State} {r : Reject}
    (unknown : decode u.cfg.xlen raw = .error r) :
    (u.cfg.unknownPolicy = .skip → runWord raw u = .next { u with
      pc := (after u (if raw.extractLsb' 0 2 = 3#2 then 4 else 2)).setWidth 64 }) ∧
    (u.cfg.unknownPolicy = .trap → runWord raw u = .next (u.trap .illegal)) := by
  have runs : runWord raw u = .next (opUnknown r.len u) := by rw [runWord, unknown]
  rw [runs, ← reject_len unknown]
  refine ⟨fun skip => ?_, fun trap => ?_⟩
  · simp only [opUnknown, skip, advance_eq_after]
  · simp only [opUnknown, trap]

/-! ### Where the run ends -/

theorem runWord_ne_fault (raw : IWord) (u : State) : ∃ t, runWord raw u = .next t := by
  unfold runWord
  split
  case h_1 i _ =>
    obtain ⟨f, runs, -⟩ := alwaysCompletes i
    exact ⟨_, runs u⟩
  case h_2 => exact ⟨_, rfl⟩

theorem step_of_canStep {s : State} (can : s.CanStep) : ∃ t, step s = .next t := by
  obtain ⟨running, words⟩ := can
  cases mode : s.cfg.fetch with
  | stream =>
    obtain ⟨raw, rest, stream⟩ := List.exists_cons_of_ne_nil (words mode)
    rw [step_of_stream running mode stream]
    exact runWord_ne_fault ..
  | memory =>
    cases fetched : s.fetchMem with
    | some raw =>
      rw [step_of_fetchMem running mode fetched]
      exact runWord_ne_fault ..
    | none => exact ⟨_, step_of_denied running mode fetched⟩

/-- A pc of XLEN bits is at the address `a` as its low XLEN bits are. -/
theorem eq_xzext_iff {s : State} (hs : s.Wf) (a : Word) :
    s.pc = xzext s.cfg.xlen a ↔ pcv s = a.setWidth (Xlen s) := by
  constructor
  · intro h
    rw [pcv, h]
    exact setWidth_bits_xzext ..
  · intro h
    rw [← hs.pc]
    exact congrArg (BitVec.setWidth 64) h

/-- Only the end of the run stops a step with the fault of that name. -/
theorem step_eq_endOfRun_iff (s : State) : step s = .fault .endOfRun ↔ s.runEnded = true := by
  refine ⟨fun h => ?_, fun ended => by rw [step, if_pos ended]⟩
  by_contra running
  rw [step, if_neg running] at h
  split at h
  case h_1 => cases h
  case h_2 => cases h
  case h_3 raw u _ =>
    obtain ⟨t, runs⟩ := runWord_ne_fault raw u
    cases runs.symm.trans h

end Sys2Proof.Machine

namespace Sys2Proof.Proofs

open Sys2Proof.Machine Sys2Proof.Claim

/-- Settles O8, in both fetch modes. -/
theorem stepRunsTheDecodedInstruction : Obligations.StepRunsTheDecodedInstruction := by
  refine ⟨fun s raw rest i running mode words known => ?_,
    fun s i running mode first second known => ?_⟩
  · rw [step_of_stream running mode words]
    exact runWord_of_decode known
  · rw [step_of_fetchMem running mode (fetchMem_of_allowed first second)]
    exact runWord_of_decode known

/-- Settles O9, in both fetch modes. -/
theorem stepOnAnUnknownWord : Obligations.StepOnAnUnknownWord := by
  refine ⟨fun s raw rest r running mode words unknown => ?_,
    fun s r running mode first second unknown => ?_⟩
  · dsimp only
    rw [step_of_stream running mode words]
    exact runWord_of_unknown (u := { s.tick with stream := rest }) unknown
  · dsimp only
    rw [step_of_fetchMem running mode (fetchMem_of_allowed first second)]
    exact runWord_of_unknown (u := s.tick) unknown

/-- Settles O10: the fetch answers none. -/
theorem deniedFetchTraps : Obligations.DeniedFetchTraps := fun _ running mode denied =>
  step_of_denied running mode (fetchMem_of_denied denied)

/-- Settles O11: the end of the run by END_OF_RUN, and a step that can be taken by its fetch. -/
theorem theRunEndsWhereEndOfRunSays : Obligations.TheRunEndsWhereEndOfRunSays := by
  intro s
  rw [step_eq_endOfRun_iff]
  refine ⟨fun policy mode => ?_, fun a hs policy => ?_, fun n policy => ?_, step_of_canStep⟩
  · simp [State.runEnded, policy, mode]
  · simp only [State.runEnded, policy, beq_iff_eq]
    exact eq_xzext_iff hs a
  · simp [State.runEnded, policy]

end Sys2Proof.Proofs
end

section
/-! PROOF. The reservation from LR through any other instruction to SC and a second SC (46_atomic
section 4). -/

namespace Sys2Proof.Machine

open Sys2Proof.Claim

theorem one_fits (xl : XLen) : fitsXlen xl 1 := by
  cases xl <;> rfl

section Reservation
variable {s t : State} {rd rs1 rs2 : RegIx}

/-- An LR that is allowed sets the reservation at its address and keeps memory and parameters. -/
theorem loadReserved_of_allowed {n : Nat} (hs : s.Wf) (allowed : Allowed s (xv s rs1).toNat n) :
    (s.loadReserved n rd rs1).resvAddr = s.getX rs1 ∧ (s.loadReserved n rd rs1).resvValid = true ∧
      (s.loadReserved n rd rs1).cfg = s.cfg := by
  rw [toNat_xv hs] at allowed
  rw [State.loadReserved, memRead_of_allowed allowed]
  simp

/-- An SC with a matching reservation at an allowed address returns 0 and ends the reservation. -/
theorem storeConditional_succeeds {n : Nat} (held : s.resvValid = true ∧ s.resvAddr = s.getX rs1)
    (allowed : Allowed s (s.getX rs1).toNat n) :
    (s.storeConditional n rd rs1 rs2).getX rd = 0 ∧
      (s.storeConditional n rd rs1 rs2).resvValid = false := by
  obtain ⟨u, write⟩ := exists_memWrite_of_allowed (s.getX rs2) allowed
  rw [storeConditional_of_memWrite held write, getX_retX]
  refine ⟨?_, retX_resvValid ..⟩
  by_cases zero : rd = 0
  · rw [if_neg fun both => both.2 zero, zero]
    exact getX_zero _
  · rw [if_pos ⟨rfl, zero⟩]
    exact zero_fits _

/-- An SC without a reservation keeps memory and returns 1. -/
theorem storeConditional_fails {n : Nat} (lost : s.resvValid = false) :
    (s.storeConditional n rd rs1 rs2).mem = s.mem ∧
      (rd ≠ 0 → (s.storeConditional n rd rs1 rs2).getX rd = 1) := by
  have notHeld : ¬(s.resvValid = true ∧ s.resvAddr = s.getX rs1) := fun held =>
    Bool.noConfusion (lost.symm.trans held.1)
  rw [storeConditional_of_not_held notHeld]
  refine ⟨retX_mem .., fun nonzero => ?_⟩
  rw [getX_retX, if_pos ⟨rfl, nonzero⟩]
  exact one_fits _

end Reservation

end Sys2Proof.Machine

namespace Sys2Proof.Proofs

open Sys2Proof.Machine Sys2Proof.Claim

/-- Settles O42: the reservation is set by LR, kept by the instruction between, and used up by the first
SC. -/
theorem reservationLaws : Obligations.ReservationLaws := by
  intro s s1 s2 i rd rd' rs1 rs2 r2 aq rl hs lr allowed addrKept keeps between addrKept'
  obtain rfl : s.loadReserved 4 rd rs1 = s1 := Host.Outcome.next.inj lr
  obtain ⟨addr, valid, cfg⟩ := loadReserved_of_allowed (rd := rd) hs allowed
  obtain ⟨f, -, completes, rfl⟩ := completes_of_exec between
  obtain ⟨addr', valid'⟩ := completes.reservation keeps
  have same : (f (s.loadReserved 4 rd rs1)).getX rs1 = s.getX rs1 := addrKept'.trans addrKept
  have held : (f (s.loadReserved 4 rd rs1)).resvValid = true ∧
      (f (s.loadReserved 4 rd rs1)).resvAddr = (f (s.loadReserved 4 rd rs1)).getX rs1 :=
    ⟨valid'.trans valid, (addr'.trans addr).trans same.symm⟩
  have stillAllowed : Allowed (f (s.loadReserved 4 rd rs1))
      ((f (s.loadReserved 4 rd rs1)).getX rs1).toNat 4 := by
    rw [same, ← toNat_xv hs]
    rw [Allowed, completes.parameters.1, cfg]
    exact allowed
  obtain ⟨zero, ended⟩ := storeConditional_succeeds (rd := rd') (rs2 := rs2) held stillAllowed
  obtain ⟨mem, one⟩ := storeConditional_fails (n := 4) (rd := rd') (rs1 := rs1) (rs2 := rs2) ended
  exact ⟨_, _, rfl, zero, ended, rfl, mem, one⟩

end Sys2Proof.Proofs
end

section
/-! PROOF. Compressed instructions beside their base instructions (40_compressed sections 2 to 5): both are
one shared operation, at lengths 2 and 4. -/

namespace Sys2Proof.Machine

open Sys2Proof.Claim

section ShortForms
variable {i base : Instr} {s : State} {n : Nat} {rd rs1 : RegIx} {imm : BitVec 12}

/-- The default advance reads the parameters and the pc only, and writes the pc only. -/
theorem advance_two {t : State} (cfg : t.cfg = s.cfg) (pc : t.pc = s.pc) :
    t.advance 2 = { t.advance 4 with pc := (after s 2).setWidth 64 } := by
  have next : t.nextPc 2 = (after s 2).setWidth 64 := by
    rw [← nextPc_eq_after, State.nextPc, State.nextPc, cfg, pc]
  have target : xzext t.cfg.xlen (t.nextPc 2) = (after s 2).setWidth 64 := by
    rw [next, cfg, xzext_setWidth]
  exact congrArg (fun a => { t with pc := a }) target

theorem shortFormOf_of_advance {t : State} (cfg : t.cfg = s.cfg) (pc : t.pc = s.pc)
    (short : exec i s = .next (t.advance 2)) (long : exec base s = .next (t.advance 4)) :
    ShortFormOf i base s :=
  ⟨_, short, _, long, advance_two cfg pc⟩

theorem shortFormOf_of_retX {v : Word} (short : exec i s = .next (s.retX 2 rd v))
    (long : exec base s = .next (s.retX 4 rd v)) : ShortFormOf i base s :=
  shortFormOf_of_advance (setX_cfg ..) (setX_pc ..) short long

/-- At its own XLEN an instruction of one XLEN only runs the operation it names. -/
theorem exec_of_onlyAt {xl : XLen} {len : Nat} {t : State} (here : s.cfg.xlen = xl)
    (runs : exec i s = .next (onlyAt xl len s t)) : exec i s = .next t :=
  runs.trans (congrArg Host.Outcome.next (onlyAt_eq here))

/-! ### Accesses -/

theorem shortAccess_of_loadX {ext : XLen → BitVec (8 * n) → Word}
    (short : exec i s = .next (s.loadX 2 n ext rd rs1 imm))
    (long : exec base s = .next (s.loadX 4 n ext rd rs1 imm)) :
    ShortAccess i base s (ea s rs1 imm) n := by
  refine ⟨fun allowed => ?_, fun denied => ?_⟩
  · rw [loadX_of_allowed allowed] at short long
    exact shortFormOf_of_retX short long
  · rw [short, long, loadX_of_denied denied, loadX_of_denied denied]

theorem shortAccess_of_loadS (short : exec i s = .next (s.loadS 2 rd rs1 imm))
    (long : exec base s = .next (s.loadS 4 rd rs1 imm)) : ShortAccess i base s (ea s rs1 imm) 4 := by
  refine ⟨fun allowed => ?_, fun denied => ?_⟩
  · rw [← toNat_ea] at allowed
    rw [State.loadS, memRead_of_allowed allowed] at short long
    exact shortFormOf_of_advance (t := s.setS rd (loaded s (s.ea rs1 imm).toNat 4)) rfl rfl short long
  · rw [short, long, loadS_of_denied denied, loadS_of_denied denied]

theorem shortAccess_of_loadD (short : exec i s = .next (s.loadD 2 rd rs1 imm))
    (long : exec base s = .next (s.loadD 4 rd rs1 imm)) : ShortAccess i base s (ea s rs1 imm) 8 := by
  refine ⟨fun allowed => ?_, fun denied => ?_⟩
  · rw [← toNat_ea] at allowed
    rw [State.loadD, memRead_of_allowed allowed] at short long
    exact shortFormOf_of_advance (t := s.setD rd (loaded s (s.ea rs1 imm).toNat 8)) rfl rfl short long
  · rw [short, long, loadD_of_denied denied, loadD_of_denied denied]

theorem shortAccess_of_storeVal {w : Nat} {v : BitVec w}
    (short : exec i s = .next (s.storeVal 2 n v rs1 imm))
    (long : exec base s = .next (s.storeVal 4 n v rs1 imm)) : ShortAccess i base s (ea s rs1 imm) n := by
  refine ⟨fun allowed => ?_, fun denied => ?_⟩
  · rw [← toNat_ea] at allowed
    obtain ⟨t, write⟩ := exists_memWrite_of_allowed v allowed
    rw [storeVal_of_memWrite write] at short long
    have frame := (memWrite_frame write).1
    exact shortFormOf_of_advance (by rw [frame]) (by rw [frame]) short long
  · rw [short, long, storeVal_of_denied denied, storeVal_of_denied denied]

end ShortForms

/-! ### Targets -/

/-- The offset of a compressed jump or branch, extended to the base instruction's field first. -/
theorem signExtend_append_zero {k n w : Nat} (off : BitVec k) (narrow : k ≤ n) (wide : n < w) :
    (off.signExtend n ++ 0#1).signExtend w = (off ++ 0#1).signExtend w := by
  refine BitVec.eq_of_toInt_eq ?_
  rw [BitVec.toInt_signExtend_of_le (by omega), BitVec.toInt_signExtend_of_le (by omega),
    BitVec.toInt_append_zero, BitVec.toInt_append_zero, BitVec.toInt_signExtend_of_le narrow]

theorem signExtend_zero (n w : Nat) : (0#n).signExtend w = 0#w := by
  rw [BitVec.signExtend_eq_setWidth_of_msb_false BitVec.msb_zero, BitVec.setWidth_zero]

/-- The comparison with x0 is one with 0. -/
theorem cmp_zero (s : State) (r : RegIx) : s.cmp eqOp r 0#5 = decide (xv s r = 0) := by
  rw [State.cmp, xrel, getX_zero, BitVec.setWidth_zero]
  rfl

theorem jalr_zero_goes (s : State) (rs1 : RegIx) :
    Goes s (s.jalr 2 0#5 rs1 0#12) (xv s rs1 &&& ~~~1#(Xlen s)) := by
  refine setPc_goes ?_
  rw [immValue, xadd_xsext, signExtend_zero, BitVec.add_zero]
  exact clearBit0_setWidth _

end Sys2Proof.Machine

namespace Sys2Proof.Proofs

open Sys2Proof.Machine Sys2Proof.Claim

/-- Settles O58: each pair ends in the same register write. -/
theorem compressedArithmetic : Obligations.CompressedArithmetic := by
  intro s rd rs2 rd' rs2' imm imm8 d e i
  refine ⟨?_, ?_, ?_, ?_, ?_, ?_, ?_, ?_, ?_, ?_, ?_, ?_, ?_, ?_, ?_, ?_, fun rv64 => ⟨?_, ?_, ?_⟩⟩
  iterate 16 · exact shortFormOf_of_retX rfl rfl
  iterate 3 · exact shortFormOf_of_retX (exec_of_onlyAt rv64 rfl) (exec_of_onlyAt rv64 rfl)

/-- Settles O59: each pair is the same access. -/
theorem compressedLoadsAndStores : Obligations.CompressedLoadsAndStores := by
  intro s r r' rs1' imm imm6 d b iw id sw sd
  refine ⟨?cFld, ?cLw, ?cFsd, ?cSw, ?cFldsp, ?cLwsp, ?cFsdsp, ?cSwsp,
    fun rv32 => ⟨?cFlw, ?cFsw, ?cFlwsp, ?cFswsp⟩, fun rv64 => ⟨?cLd, ?cSd, ?cLdsp, ?cSdsp⟩⟩
  case cFld | cFldsp => exact shortAccess_of_loadD rfl rfl
  case cLw | cLwsp => exact shortAccess_of_loadX rfl rfl
  case cFsd | cSw | cFsdsp | cSwsp => exact shortAccess_of_storeVal rfl rfl
  case cFlw | cFlwsp => exact shortAccess_of_loadS (exec_of_onlyAt rv32 rfl) rfl
  case cFsw | cFswsp => exact shortAccess_of_storeVal (exec_of_onlyAt rv32 rfl) rfl
  case cLd | cLdsp => exact shortAccess_of_loadX (exec_of_onlyAt rv64 rfl) (exec_of_onlyAt rv64 rfl)
  case cSd | cSdsp => exact shortAccess_of_storeVal (exec_of_onlyAt rv64 rfl) (exec_of_onlyAt rv64 rfl)

/-- Settles O60: the shared jump and branch at length 2, their offsets extended in two steps. -/
theorem compressedJumpsAndBranches : Obligations.CompressedJumpsAndBranches := by
  intro s rs1 rs1' off off8 w next target branch a
  have wide : 31 < Xlen s := Nat.lt_of_succ_le (thirtyTwo_le_bits _)
  have jump : (off.signExtend 20 ++ 0#1).signExtend (Xlen s) = (off ++ 0#1).signExtend (Xlen s) :=
    signExtend_append_zero off (by decide) (by omega)
  have short : (off8.signExtend 12 ++ 0#1).signExtend (Xlen s) = (off8 ++ 0#1).signExtend (Xlen s) :=
    signExtend_append_zero off8 (by decide) (by omega)
  refine ⟨?cJ, fun rv32 => ?cJal, ?cJr, ?cJalr, ?cBeqz, ?cBnez⟩
  case cJ =>
    refine ⟨_, rfl, setPc_goes ?_⟩
    rw [jumpOffset, xadd_xsext, jump]
    rfl
  case cJal =>
    have link := jal_setsX (s := s) (len := 2) (rd := 1) (off.signExtend 20)
    rw [jump] at link
    exact ⟨_, exec_of_onlyAt rv32 rfl, link⟩
  case cJr => exact ⟨_, rfl, jalr_zero_goes s rs1⟩
  case cJalr =>
    have link := jalr_setsX (s := s) (len := 2) (rd := 1) (rs1 := rs1) 0#12
    rw [signExtend_zero, BitVec.add_zero] at link
    exact ⟨_, rfl, link⟩
  case cBeqz =>
    have goes := branch_goes (s := s) (len := 2) (off := off8.signExtend 12)
      (taken := s.cmp eqOp (creg rs1') 0#5) (p := a = 0) (cmp_zero ..)
    rw [short] at goes
    exact ⟨_, rfl, goes⟩
  case cBnez =>
    have goes := branch_goes (s := s) (len := 2) (off := off8.signExtend 12)
      (taken := !s.cmp eqOp (creg rs1') 0#5) (p := a ≠ 0)
      ((congrArg not (cmp_zero ..)).trans decide_not.symm)
    rw [short] at goes
    exact ⟨_, rfl, goes⟩

end Sys2Proof.Proofs
end

section
/-! PROOF. Floating-point instructions in the words of the claims (47_float_single section 6,
48_float_double sections 2 to 7): which primitive each applies, to which operands, and where the result
goes. -/

namespace Sys2Proof.Machine

open Sys2Proof.Claim

/-- Negation flips the sign bit (47_float_single R345). -/
theorem fNeg_eq_xor {n : Nat} (F : Fmt) (b : BitVec n) :
    fNeg F b = b ^^^ BitVec.ofNat n (2 ^ fSignPos F) := by
  ext k inside
  rw [← BitVec.getLsbD_eq_getElem, fNeg, getLsbD_fWithSign F b _ inside, BitVec.getElem_xor,
    ← BitVec.getLsbD_eq_getElem, ← BitVec.getLsbD_eq_getElem, BitVec.getLsbD_ofNat,
    Nat.testBit_two_pow, decide_eq_true inside]
  by_cases sign : fSignPos F = k <;> simp [sign, fSign]

theorem fNeg_f32 (b : BitVec 32) : fNeg f32 b = b ^^^ 0x80000000#32 := fNeg_eq_xor f32 b

theorem fNeg_f64 (b : BitVec 64) : fNeg f64 b = b ^^^ 0x8000000000000000#64 := fNeg_eq_xor f64 b

section Writes
variable {i : Instr} {s : State} {rd : RegIx} {v : BitVec (Xlen s)}

theorem runs_writesX_of_exec {u : Word} (runs : exec i s = .next (s.retX 4 rd u))
    (value : u = v.setWidth 64) : Runs i s (WritesX s · 4 rd v) :=
  ⟨_, runs, retX_writesX value⟩

/-- A comparison writes its truth value. -/
theorem runs_writesX_of_boolWord {b : Bool} (runs : exec i s = .next (s.retX 4 rd (boolWord b))) :
    Runs i s (WritesX s · 4 rd (bit (Xlen s) (b = true))) :=
  runs_writesX_of_exec runs ((congrArg boolWord (Bool.decide_eq_true (b := b)).symm).trans (boolWord_decide ..))

/-- At XLEN 64 a doubleword has no bits to be extended by. -/
theorem doubleword_eq (rv64 : s.cfg.xlen = .rv64) (d : BitVec 64) : d = (d.setWidth (Xlen s)).setWidth 64 := by
  rw [Xlen, rv64]
  exact (BitVec.setWidth_eq _).symm

end Writes

end Sys2Proof.Machine

namespace Sys2Proof.Proofs

open Sys2Proof.Machine Sys2Proof.Claim

/-- Settles O43: each instruction returns its primitive in the direction of rm; subtraction and the
negated forms flip the sign of an operand. -/
theorem floatArithmeticResults : Obligations.FloatArithmeticResults := by
  refine ⟨⟨rfl, rfl, rfl, rfl, rfl, rfl, rfl, rfl⟩, fun s rd rs1 rs2 rs3 rm => ?_⟩
  simp only [← fNeg_f32, ← fNeg_f64]
  refine ⟨?_, ?_, ?_, ?_, ?_, ?_, ?_, ?_, ?_, ?_, ?_, ?_, ?_, ?_, ?_, ?_, ?_, ?_⟩
  iterate 9 · exact returnsS_of_exec rfl
  iterate 9 · exact returnsD_of_exec rfl

/-- Settles O45: the truth values and the class mask end in the shared register write. -/
theorem floatComparesAndClass : Obligations.FloatComparesAndClass := by
  intro s rd rs1 rs2 w a b d e
  refine ⟨?feqS, ?fltS, ?fleS, ?fclassS, ?feqD, ?fltD, ?fleD, ?fclassD⟩
  case fclassS | fclassD => exact runs_writesX_of_exec rfl rfl
  all_goals exact runs_writesX_of_boolWord rfl

/-- Settles O46: the results end in the shared register write, at XLEN 64 unextended. -/
theorem conversionsToInteger : Obligations.ConversionsToInteger := by
  intro s rd rs1 rm w m a d
  refine ⟨?_, ?_, ?_, ?_, ?_, fun rv64 => ⟨?fmvXD, ?_, ?_, ?_, ?_⟩⟩
  case fmvXD => exact runs_writesX_of_exec (exec_of_onlyAt rv64 rfl) (doubleword_eq rv64 _)
  iterate 5 · exact runs_writesX_of_exec rfl rfl
  iterate 4 · exact runs_writesX_of_exec (exec_of_onlyAt rv64 rfl) (xsext_of_rv64 rv64 _)

end Sys2Proof.Proofs
end

section
/-! PROOF. Patterns as a sign and a magnitude (47_float_single R341): the magnitude, the bits below the
sign, orders the values, and its place tells the classes apart. -/

namespace Sys2Proof.Machine

open Sys2Proof.Claim

/-! ### Formats -/

section Format
variable {n : Nat} {F : Fmt} (format : IsFormat n F)
include format

theorem IsFormat.width : n = fSignPos F + 1 := by
  rcases format with ⟨rfl, rfl⟩ | ⟨rfl, rfl⟩ <;> rfl

theorem IsFormat.fracBits_pos : 0 < F.fracBits := by
  rcases format with ⟨rfl, rfl⟩ | ⟨rfl, rfl⟩ <;> decide

end Format

/-! ### The magnitude of a pattern -/

/-- The magnitude of a pattern: its exponent and fraction fields as one integer. -/
def fMag {n : Nat} (F : Fmt) (b : BitVec n) : Nat := fExp F b * 2 ^ F.fracBits + fFrac F b

section Magnitude
variable {n : Nat} (F : Fmt) (b : BitVec n)

theorem fFrac_lt : fFrac F b < 2 ^ F.fracBits := BitVec.isLt _

theorem fMag_div : fMag F b / 2 ^ F.fracBits = fExp F b := by
  rw [fMag, Nat.add_comm, Nat.add_mul_div_right _ _ (Nat.two_pow_pos _),
    Nat.div_eq_of_lt (fFrac_lt F b), zero_add]

theorem fMag_mod : fMag F b % 2 ^ F.fracBits = fFrac F b := by
  rw [fMag, Nat.mul_add_mod', Nat.mod_eq_of_lt (fFrac_lt F b)]

theorem fMag_eq_toNat_mod : fMag F b = b.toNat % 2 ^ fSignPos F := by
  rw [fSignPos, Nat.add_comm, Nat.pow_add, Nat.mod_mul, fMag, fExp, fFrac, BitVec.extractLsb'_toNat,
    BitVec.extractLsb'_toNat, Nat.shiftRight_eq_div_pow, Nat.shiftRight_zero]
  ring

theorem fIsZero_iff : fIsZero F b = true ↔ fMag F b = 0 := by
  simp [fIsZero, fMag]

theorem fIsInf_iff : fIsInf F b = true ↔ fMag F b = fInfMag F := by
  rw [fIsInf, Bool.and_eq_true, beq_iff_eq, beq_iff_eq]
  constructor
  · rintro ⟨top, zero⟩
    rw [fMag, top, zero, fInfMag, Nat.add_zero]
  · intro mag
    rw [← fMag_div, ← fMag_mod, mag, fInfMag, Nat.mul_div_cancel _ (Nat.two_pow_pos _), Nat.mul_mod_left]
    exact ⟨rfl, rfl⟩

theorem fIsNan_iff : fIsNan F b = true ↔ fInfMag F < fMag F b := by
  rw [fIsNan, Bool.and_eq_true, beq_iff_eq, bne_iff_ne]
  constructor
  · rintro ⟨top, nonzero⟩
    rw [fMag, top, fInfMag]
    omega
  · intro above
    have reached : fMaxExp F ≤ fExp F b := by
      rw [← fMag_div, Nat.le_div_iff_mul_le (Nat.two_pow_pos _)]
      exact above.le
    have top : fExp F b = fMaxExp F := le_antisymm (fExp_le_fMaxExp F b) reached
    refine ⟨top, fun zero => ?_⟩
    rw [fMag, top, zero, fInfMag] at above
    omega

theorem finite_iff : Claim.Finite F b ↔ fMag F b < fInfMag F := by
  rw [Claim.Finite, ← Bool.not_eq_true, ← Bool.not_eq_true, fIsNan_iff, fIsInf_iff]
  omega

end Magnitude

/-! ### A pattern from its sign and its magnitude -/

section Pack
variable {n : Nat} {F : Fmt} (width : n = fSignPos F + 1)
include width

theorem toNat_eq_sign_add_mag (b : BitVec n) :
    b.toNat = (if fSign F b then 2 ^ fSignPos F else 0) + fMag F b := by
  subst width
  have small : b.toNat < 2 ^ fSignPos F * 2 := b.isLt
  rw [fMag_eq_toNat_mod, fSign, BitVec.getLsbD, Nat.testBit_eq_decide_div_mod_eq]
  have split := Nat.div_add_mod b.toNat (2 ^ fSignPos F)
  have top : b.toNat / 2 ^ fSignPos F < 2 := Nat.div_lt_of_lt_mul small
  rcases Nat.lt_succ_iff_lt_or_eq.1 top with zero | one
  · rw [Nat.lt_one_iff.1 zero] at split ⊢
    simpa using split.symm
  · rw [one] at split ⊢
    simpa using split.symm

/-- Sign and magnitude determine a pattern. -/
theorem eq_of_fSign_of_fMag {a b : BitVec n} (sign : fSign F a = fSign F b)
    (mag : fMag F a = fMag F b) : a = b := by
  refine BitVec.eq_of_toNat_eq ?_
  rw [toNat_eq_sign_add_mag width a, toNat_eq_sign_add_mag width b, sign, mag]

variable {neg : Bool} {mag : Nat} (fits : mag < 2 ^ fSignPos F)
include fits

theorem toNat_fPack : (fPack n F neg mag).toNat = (if neg then 2 ^ fSignPos F else 0) + mag := by
  subst width
  rw [fPack, BitVec.toNat_ofNat, Nat.mod_eq_of_lt]
  rw [Nat.pow_succ]
  split <;> omega

theorem fMag_fPack : fMag F (fPack n F neg mag) = mag := by
  rw [fMag_eq_toNat_mod, toNat_fPack width fits]
  cases neg
  · simpa using Nat.mod_eq_of_lt fits
  · simpa using Nat.mod_eq_of_lt fits

theorem fSign_fPack : fSign F (fPack n F neg mag) = neg := by
  have same := toNat_eq_sign_add_mag width (fPack n F neg mag)
  have positive : 0 < 2 ^ fSignPos F := Nat.two_pow_pos _
  rw [fMag_fPack width fits, toNat_fPack width fits] at same
  cases neg <;> cases sign : fSign F (fPack n F _ mag) <;> simp [sign] at same ⊢

end Pack

theorem fInfMag_lt (F : Fmt) : fInfMag F < 2 ^ fSignPos F := by
  rw [fInfMag, fMaxExp, fSignPos, Nat.pow_add]
  exact Nat.mul_lt_mul_of_pos_right (Nat.sub_lt (Nat.two_pow_pos _) Nat.one_pos) (Nat.two_pow_pos _)

/-! ### The value of a magnitude -/

/-- The value of the positive pattern with the magnitude `k`, that of an infinity read as a number
among them. -/
def magVal (F : Fmt) (k : Nat) : ℚ :=
  ((if k / 2 ^ F.fracBits = 0 then k % 2 ^ F.fracBits else 2 ^ F.fracBits + k % 2 ^ F.fracBits : Nat) : ℚ) *
    2 ^ (((max (k / 2 ^ F.fracBits) 1 : Nat) : Int) - 1 + fMinExp F)

theorem val_eq_magVal {n : Nat} (F : Fmt) (b : BitVec n) :
    val F b = withSign (fSign F b) (magVal F (fMag F b)) := by
  rw [val_eq_withSign, magVal, fMag_div, fMag_mod, fSig, fPow]

/-- A magnitude is a number of units in the last place, and their exponent. -/
theorem exists_units (F : Fmt) (k : Nat) : ∃ q r, k = q * 2 ^ F.fracBits + r ∧
    (q = 0 ∨ 2 ^ F.fracBits ≤ r) ∧ r < 2 ^ (F.fracBits + 1) := by
  have split := Nat.div_add_mod' k (2 ^ F.fracBits)
  have small : k % 2 ^ F.fracBits < 2 ^ F.fracBits := Nat.mod_lt _ (Nat.two_pow_pos _)
  rw [Nat.pow_succ]
  cases top : k / 2 ^ F.fracBits with
  | zero =>
    rw [top] at split
    exact ⟨0, k % 2 ^ F.fracBits, split.symm, .inl rfl, by omega⟩
  | succ q =>
    rw [top, Nat.succ_mul] at split
    exact ⟨q, 2 ^ F.fracBits + k % 2 ^ F.fracBits, by omega, .inr (by omega), by omega⟩

theorem magVal_subnormal (F : Fmt) {k : Nat} (small : k < 2 ^ F.fracBits) :
    magVal F k = k * 2 ^ fMinExp F := by
  rw [magVal, Nat.div_eq_of_lt small, Nat.mod_eq_of_lt small, if_pos rfl]
  norm_num

theorem magVal_normal (F : Fmt) (q : Nat) {t : Nat} (small : t < 2 ^ F.fracBits) :
    magVal F ((q + 1) * 2 ^ F.fracBits + t) = (2 ^ F.fracBits + t : Nat) * 2 ^ ((q : Int) + fMinExp F) := by
  have div : ((q + 1) * 2 ^ F.fracBits + t) / 2 ^ F.fracBits = q + 1 := by
    rw [Nat.add_comm, Nat.add_mul_div_right _ _ (Nat.two_pow_pos _), Nat.div_eq_of_lt small, zero_add]
  have mod : ((q + 1) * 2 ^ F.fracBits + t) % 2 ^ F.fracBits = t := by
    rw [Nat.mul_add_mod', Nat.mod_eq_of_lt small]
  rw [magVal, div, mod, if_neg (Nat.succ_ne_zero q), max_eq_left (Nat.le_add_left 1 q)]
  push_cast
  congr 2
  ring

/-- Within one exponent, and at the carry into the next, the value is linear in the magnitude. -/
theorem magVal_units (F : Fmt) {q r : Nat} (normal : q = 0 ∨ 2 ^ F.fracBits ≤ r)
    (fits : r ≤ 2 ^ (F.fracBits + 1)) :
    magVal F (q * 2 ^ F.fracBits + r) = r * 2 ^ ((q : Int) + fMinExp F) := by
  rw [Nat.pow_succ] at fits
  rcases Nat.lt_or_ge r (2 ^ F.fracBits) with subnormal | reached
  · obtain rfl : q = 0 := normal.resolve_right (Nat.not_le.2 subnormal)
    rw [zero_mul, zero_add, magVal_subnormal F subnormal, Nat.cast_zero, zero_add]
  · obtain ⟨t, rfl⟩ := Nat.exists_eq_add_of_le reached
    rcases Nat.lt_or_ge t (2 ^ F.fracBits) with inside | carry
    · rw [← magVal_normal F q inside, ← Nat.add_assoc, Nat.succ_mul]
    · obtain rfl : t = 2 ^ F.fracBits := by omega
      have carried := magVal_normal F (q + 1) (Nat.two_pow_pos F.fracBits)
      rw [show q * 2 ^ F.fracBits + (2 ^ F.fracBits + 2 ^ F.fracBits) = (q + 1 + 1) * 2 ^ F.fracBits + 0 by
        ring, carried]
      push_cast
      rw [add_right_comm, zpow_add₀ two_ne_zero _ 1]
      ring

theorem magVal_zero (F : Fmt) : magVal F 0 = 0 := by
  simpa using magVal_units F (q := 0) (r := 0) (.inl rfl) (Nat.zero_le _)

theorem magVal_strictMono (F : Fmt) : StrictMono (magVal F) := by
  refine strictMono_nat_of_lt_succ fun k => ?_
  obtain ⟨q, r, rfl, normal, fits⟩ := exists_units F k
  rw [Nat.add_assoc, magVal_units F normal fits.le,
    magVal_units F (normal.imp id fun reached => by omega) (Nat.succ_le_of_lt fits)]
  have unit : (0 : ℚ) < 2 ^ ((q : Int) + fMinExp F) := by positivity
  push_cast
  nlinarith

end Sys2Proof.Machine
end

section
/-! PROOF. Comparison, minimum and maximum on exact values (47_float_single R347, R348): the values of the
patterns compare as the model's aligned integers do, an infinity read as a number beyond every finite
one. -/

namespace Sys2Proof.Machine

open Sys2Proof.Claim

/-! ### Integers times powers of 2 -/

theorem val_eq_fInt {n : Nat} (F : Fmt) (a : BitVec n) : val F a = fInt F a * 2 ^ fPow F a := by
  rw [val_eq_withSign, fInt, withSign]
  cases fSign F a
  · rfl
  · simp

theorem alignInt_mul (v : Int) {e e0 : Int} (below : e0 ≤ e) :
    (alignInt v e e0 : ℚ) * 2 ^ e0 = v * 2 ^ e := by
  have exponent : ((e - e0).toNat : Int) = e - e0 := Int.toNat_of_nonneg (by omega)
  rw [alignInt, Int.cast_mul, Int.cast_pow, Int.cast_ofNat, mul_assoc, ← zpow_natCast, exponent,
    ← zpow_add₀ two_ne_zero, Int.sub_add_cancel]

section Values
variable {n : Nat} {F : Fmt} (a b : BitVec n)

theorem alignInt_fInt_left : (alignInt (fInt F a) (fPow F a) (min (fPow F a) (fPow F b)) : ℚ) *
    2 ^ min (fPow F a) (fPow F b) = val F a := by
  rw [alignInt_mul _ (min_le_left _ _), val_eq_fInt]

theorem alignInt_fInt_right : (alignInt (fInt F b) (fPow F b) (min (fPow F a) (fPow F b)) : ℚ) *
    2 ^ min (fPow F a) (fPow F b) = val F b := by
  rw [alignInt_mul _ (min_le_right _ _), val_eq_fInt]

theorem fValLt_iff : fValLt F a b = true ↔ val F a < val F b := by
  have unit : (0 : ℚ) < 2 ^ min (fPow F a) (fPow F b) := by positivity
  rw [← alignInt_fInt_left a b, ← alignInt_fInt_right a b, mul_lt_mul_iff_left₀ unit, Int.cast_lt]
  exact decide_eq_true_iff

theorem fValEq_iff : fValEq F a b = true ↔ val F a = val F b := by
  have unit : (2 : ℚ) ^ min (fPow F a) (fPow F b) ≠ 0 := by positivity
  rw [← alignInt_fInt_left a b, ← alignInt_fInt_right a b, mul_left_inj' unit, Int.cast_inj]
  exact decide_eq_true_iff

/-! ### Magnitudes -/

theorem magVal_nonneg (F : Fmt) (k : Nat) : 0 ≤ magVal F k := by
  rw [← magVal_zero F]
  exact (magVal_strictMono F).monotone (Nat.zero_le k)

theorem abs_val (F : Fmt) (a : BitVec n) : |val F a| = magVal F (fMag F a) := by
  rw [val_eq_magVal, abs_withSign, abs_of_nonneg (magVal_nonneg F _)]

theorem val_eq_zero_iff : val F a = 0 ↔ fIsZero F a = true := by
  rw [fIsZero_iff, ← abs_eq_zero, abs_val, ← magVal_zero F, (magVal_strictMono F).injective.eq_iff]

theorem fIsNan_eq_false_of_fIsInf (inf : fIsInf F a = true) : fIsNan F a = false := by
  rw [← Bool.not_eq_true, fIsNan_iff, (fIsInf_iff F a).1 inf]
  exact lt_irrefl _

theorem fIsNan_eq_false_of_fIsZero (zero : fIsZero F a = true) : fIsNan F a = false := by
  rw [← Bool.not_eq_true, fIsNan_iff, (fIsZero_iff F a).1 zero]
  exact Nat.not_lt_zero _

theorem magVal_fInfMag_pos (F : Fmt) (format : IsFormat n F) : 0 < magVal F (fInfMag F) := by
  rw [← magVal_zero F, (magVal_strictMono F).lt_iff_lt, fInfMag]
  exact Nat.mul_pos (fMaxExp_pos format) (Nat.two_pow_pos _)

/-- An infinity has the greatest magnitude of a number. -/
theorem val_of_fIsInf (inf : fIsInf F b = true) :
    val F b = withSign (fSign F b) (magVal F (fInfMag F)) := by
  rw [val_eq_magVal, (fIsInf_iff F b).1 inf]

variable {a b}

/-- Every finite value lies between the infinities. -/
theorem abs_val_lt_of_finite (finite : Claim.Finite F a) : |val F a| < magVal F (fInfMag F) := by
  rw [abs_val, (magVal_strictMono F).lt_iff_lt]
  exact (finite_iff F a).1 finite

theorem val_lt_of_finite_of_inf (finite : Claim.Finite F a) (inf : fIsInf F b = true) :
    (fSign F b = false → val F a < val F b) ∧ (fSign F b = true → val F b < val F a) := by
  obtain ⟨above, below⟩ := abs_lt.1 (abs_val_lt_of_finite finite)
  rw [val_of_fIsInf b inf]
  exact ⟨fun positive => by rw [positive]; exact below, fun negative => by rw [negative]; exact above⟩

/-! ### The comparisons of numbers -/

section Numbers
variable (numberA : fIsNan F a = false) (numberB : fIsNan F b = false)
include numberA numberB

theorem fEq_iff : fEq F a b = true ↔ val F a = val F b := by
  rw [fEq, numberA, numberB, ← fValEq_iff]
  rfl

theorem fLt_iff : fLt F a b = true ↔ val F a < val F b := by
  rw [fLt, numberA, numberB, ← fValLt_iff]
  rfl

theorem fLe_iff : fLe F a b = true ↔ val F a ≤ val F b := by
  rw [fLe, numberA, numberB, le_iff_lt_or_eq, ← fValLt_iff, ← fValEq_iff]
  simp

theorem fEq_eq_decide : fEq F a b = decide (val F a = val F b) := by
  rw [Bool.eq_iff_iff, fEq_iff numberA numberB, decide_eq_true_iff]

theorem fLt_eq_decide : fLt F a b = decide (val F a < val F b) := by
  rw [Bool.eq_iff_iff, fLt_iff numberA numberB, decide_eq_true_iff]

theorem fLe_eq_decide : fLe F a b = decide (val F a ≤ val F b) := by
  rw [Bool.eq_iff_iff, fLe_iff numberA numberB, decide_eq_true_iff]

theorem fMin_eq : fMin F a b = some (if fIsZero F a && fIsZero F b && fSign F a != fSign F b then
    fZero n F true else if val F b < val F a then b else a) := by
  simp only [fMin, numberA, numberB, ← fValLt_iff]
  split_ifs <;> simp_all

theorem fMax_eq : fMax F a b = some (if fIsZero F a && fIsZero F b && fSign F a != fSign F b then
    fZero n F false else if val F a < val F b then b else a) := by
  simp only [fMax, numberA, numberB, ← fValLt_iff]
  split_ifs <;> simp_all

/-- Of two different values the lesser is the minimum and the greater the maximum, in either order. -/
theorem least_of_val_lt (less : val F a < val F b) :
    fMin F a b = some a ∧ fMin F b a = some a ∧ fMax F a b = some b ∧ fMax F b a = some b := by
  have notBothZero : (fIsZero F a && fIsZero F b) = false := by
    rw [← Bool.not_eq_true, Bool.and_eq_true, ← val_eq_zero_iff, ← val_eq_zero_iff]
    rintro ⟨zeroA, zeroB⟩
    exact less.ne (zeroA.trans zeroB.symm)
  have notBothZero' : (fIsZero F b && fIsZero F a) = false := by rwa [Bool.and_comm]
  rw [fMin_eq numberA numberB, fMin_eq numberB numberA, fMax_eq numberA numberB,
    fMax_eq numberB numberA]
  simp [notBothZero, notBothZero', less, less.not_gt]

end Numbers

end Values

end Sys2Proof.Machine

namespace Sys2Proof.Proofs

open Sys2Proof.Machine Sys2Proof.Claim

/-- Settles O54: values of numbers compare as their sign and magnitude say, a NaN apart. -/
theorem comparisonsCompareExactValues : Obligations.ComparisonsCompareExactValues := by
  intro n F a b format least
  refine ⟨?nan, ?finite, ?finiteInf, ?infInf, ?less, ?beyond, ?infinities, ?same, ?zeros, ?oneNan, ?nans⟩
  case nan =>
    rintro (nan | nan) <;> simp [fEq, fLt, fLe, nan]
  case finite =>
    intro ha hb
    exact ⟨fEq_iff ha.1 hb.1, fLt_iff ha.1 hb.1, fLe_iff ha.1 hb.1⟩
  case finiteInf =>
    intro ha inf
    have number := fIsNan_eq_false_of_fIsInf b inf
    obtain ⟨below, above⟩ := val_lt_of_finite_of_inf ha inf
    rw [fEq_eq_decide ha.1 number, fEq_eq_decide number ha.1, fLt_eq_decide ha.1 number,
      fLt_eq_decide number ha.1, fLe_eq_decide ha.1 number, fLe_eq_decide number ha.1]
    cases sign : fSign F b with
    | false =>
      have less := below sign
      simp [less, less.ne, less.ne', less.le]
    | true =>
      have less := above sign
      simp [less, less.ne, less.ne', less.le]
  case infInf =>
    intro infA infB
    have numberA := fIsNan_eq_false_of_fIsInf a infA
    have numberB := fIsNan_eq_false_of_fIsInf b infB
    have positive := magVal_fInfMag_pos F format
    rw [fEq_eq_decide numberA numberB, fLt_eq_decide numberA numberB, fLe_eq_decide numberA numberB,
      val_of_fIsInf a infA, val_of_fIsInf b infB]
    cases fSign F a <;> cases fSign F b <;> simp [withSign, positive, positive.le, (neg_lt_self positive).ne,
      (neg_lt_self positive).ne']
  case less =>
    intro ha hb less
    exact least_of_val_lt ha.1 hb.1 less
  case beyond =>
    intro ha inf
    have number := fIsNan_eq_false_of_fIsInf b inf
    obtain ⟨below, above⟩ := val_lt_of_finite_of_inf ha inf
    exact ⟨fun positive => least_of_val_lt ha.1 number (below positive),
      fun negative => least_of_val_lt number ha.1 (above negative)⟩
  case infinities =>
    intro infA infB negative positive
    refine least_of_val_lt (fIsNan_eq_false_of_fIsInf a infA) (fIsNan_eq_false_of_fIsInf b infB) ?_
    have beyond := magVal_fInfMag_pos F format
    rw [val_of_fIsInf a infA, val_of_fIsInf b infB, negative, positive]
    exact neg_lt_self beyond
  case same =>
    intro number
    rw [fMin_eq number number, fMax_eq number number]
    simp
  case zeros =>
    intro zeroA zeroB signs
    rw [fMin_eq (fIsNan_eq_false_of_fIsZero a zeroA) (fIsNan_eq_false_of_fIsZero b zeroB),
      fMax_eq (fIsNan_eq_false_of_fIsZero a zeroA) (fIsNan_eq_false_of_fIsZero b zeroB)]
    simp [zeroA, zeroB, signs]
  case oneNan =>
    intro nan number
    simp [fMin, fMax, nan, number]
  case nans =>
    intro nanA nanB
    simp [fMin, fMax, nanA, nanB]

end Sys2Proof.Proofs
end

section
/-! PROOF. The operations that round (47_float_single R343 to R346, R351, R352): which of their results are
NaNs, infinities and zeros, and that every other result rounds the exact value once. -/

namespace Sys2Proof.Machine

open Sys2Proof.Claim

/-! ### Exact results (R344, R345, R351, R352) -/

/-- `v` is the rounding of the exact value `x`, written as a sign, a quotient and a power of 2. -/
def RoundsExact (n : Nat) (F : Fmt) (m : RMode) (x : ℚ) (v : BitVec n) : Prop :=
  ∃ (neg : Bool) (num den : Nat) (e : Int), 0 < num ∧ 0 < den ∧
    x = (if neg then -1 else 1) * ((num : ℚ) / den * 2 ^ e) ∧ some v = some (fRound n F m neg num den e)

section Exact
variable {n : Nat} {F : Fmt} (m : RMode) {x : ℚ}

theorem sign_mul_natAbs (v : Int) :
    (if decide (v < 0) = true then (-1 : ℚ) else 1) * (v.natAbs : ℚ) = v := by
  rcases lt_or_ge v 0 with negative | nonneg
  · rw [if_pos (decide_eq_true negative), Nat.cast_natAbs, abs_of_neg negative]
    push_cast
    ring
  · rw [if_neg (by simpa using nonneg), Nat.cast_natAbs, abs_of_nonneg nonneg, one_mul]

theorem roundsExact_fRoundInt {v e : Int} (exact : x = v * 2 ^ e) (nonzero : x ≠ 0) :
    RoundsExact n F m x (fRoundInt n F m v e) := by
  have vNonzero : v ≠ 0 := by
    rintro rfl
    simp [exact] at nonzero
  refine ⟨_, _, 1, e, Int.natAbs_pos.2 vNonzero, Nat.one_pos, ?_, rfl⟩
  rw [exact, Nat.cast_one, div_one, ← mul_assoc, sign_mul_natAbs]

section Operands
variable {a b c : BitVec n}

theorem not_fIsZero_of_val_ne_zero (nonzero : val F a ≠ 0) : fIsZero F a = false := by
  rwa [← Bool.not_eq_true, ← val_eq_zero_iff]

theorem fSig_pos (notZero : fIsZero F a = false) : 0 < fSig F a := by
  refine Nat.pos_of_ne_zero fun zero => ?_
  have value : val F a = 0 := by rw [val_eq_withSign, zero]; cases fSign F a <;> simp [withSign]
  exact Bool.noConfusion (notZero.symm.trans ((val_eq_zero_iff a).1 value))

/-- The product of the signs. -/
theorem sign_mul_sign (s t : Bool) :
    (if (s != t) = true then (-1 : ℚ) else 1) = (if s then -1 else 1) * (if t then -1 else 1) := by
  cases s <;> cases t <;> norm_num

theorem val_eq_sign_mul (a : BitVec n) :
    val F a = (if fSign F a then -1 else 1) * ((fSig F a : ℚ) * 2 ^ fPow F a) := by
  rw [val_eq_withSign, withSign]
  cases fSign F a <;> simp

/-- The sum that `fAdd` forms of finite operands is the exact one. -/
theorem alignInt_sum (x y : Int) (ex ey : Int) :
    ((alignInt x ex (min ex ey) + alignInt y ey (min ex ey) : Int) : ℚ) * 2 ^ min ex ey =
      x * 2 ^ ex + y * 2 ^ ey := by
  rw [Int.cast_add, add_mul, alignInt_mul _ (min_le_left _ _), alignInt_mul _ (min_le_right _ _)]

theorem mul_two_zpow_eq_zero_iff {r e : Int} : (r : ℚ) * 2 ^ e = 0 ↔ r = 0 := by
  rw [mul_eq_zero, Int.cast_eq_zero, or_iff_left (zpow_ne_zero _ two_ne_zero)]

theorem alignInt_product : ((alignInt (fInt F a * fInt F b) (fPow F a + fPow F b)
        (min (fPow F a + fPow F b) (fPow F c)) +
      alignInt (fInt F c) (fPow F c) (min (fPow F a + fPow F b) (fPow F c)) : Int) : ℚ) *
      2 ^ min (fPow F a + fPow F b) (fPow F c) = val F a * val F b + val F c := by
  rw [alignInt_sum, val_eq_fInt F a, val_eq_fInt F b, val_eq_fInt F c, zpow_add₀ two_ne_zero]
  push_cast
  ring

variable (ha : Claim.Finite F a) (hb : Claim.Finite F b)
include ha hb

theorem roundsExact_fAdd (nonzero : val F a + val F b ≠ 0) :
    ∃ v, fAdd F m a b = some v ∧ RoundsExact n F m (val F a + val F b) v := by
  have exact := alignInt_sum (fInt F a) (fInt F b) (fPow F a) (fPow F b)
  rw [← val_eq_fInt, ← val_eq_fInt] at exact
  refine ⟨_, ?_, roundsExact_fRoundInt m exact.symm nonzero⟩
  rw [← exact, ne_eq, mul_two_zpow_eq_zero_iff] at nonzero
  simp only [fAdd, ha.1, ha.2, hb.1, hb.2]
  exact if_pos nonzero

/-- The zero that a sum of value 0 gives (R344). -/
theorem fAdd_of_val_eq_zero (zero : val F a + val F b = 0) :
    fAdd F m a b = some (if fIsZero F a && fIsZero F b && fSign F a == fSign F b then a
      else fCancelZero n F m) := by
  have exact := alignInt_sum (fInt F a) (fInt F b) (fPow F a) (fPow F b)
  rw [← val_eq_fInt, ← val_eq_fInt, zero, mul_two_zpow_eq_zero_iff] at exact
  simp only [fAdd, ha.1, ha.2, hb.1, hb.2, apply_ite some]
  exact if_neg (not_not_intro exact)

theorem roundsExact_fMul (nonzero : val F a * val F b ≠ 0) :
    ∃ v, fMul F m a b = some v ∧ RoundsExact n F m (val F a * val F b) v := by
  have notZeroA := not_fIsZero_of_val_ne_zero (left_ne_zero_of_mul nonzero)
  have notZeroB := not_fIsZero_of_val_ne_zero (right_ne_zero_of_mul nonzero)
  refine ⟨_, by simp only [fMul, ha.1, ha.2, hb.1, hb.2, notZeroA, notZeroB]; rfl, _, _, 1, _,
    Nat.mul_pos (fSig_pos notZeroA) (fSig_pos notZeroB), Nat.one_pos, ?_, rfl⟩
  rw [val_eq_sign_mul a, val_eq_sign_mul b, sign_mul_sign, zpow_add₀ two_ne_zero]
  push_cast
  ring

theorem roundsExact_fDiv (nonzero : val F a / val F b ≠ 0) :
    ∃ v, fDiv F m a b = some v ∧ RoundsExact n F m (val F a / val F b) v := by
  obtain ⟨nonzeroA, nonzeroB⟩ := div_ne_zero_iff.1 nonzero
  have notZeroA := not_fIsZero_of_val_ne_zero nonzeroA
  have notZeroB := not_fIsZero_of_val_ne_zero nonzeroB
  refine ⟨_, by simp only [fDiv, ha.1, ha.2, hb.1, hb.2, notZeroA, notZeroB]; rfl, _, _, _, _,
    fSig_pos notZeroA, fSig_pos notZeroB, ?_, rfl⟩
  rw [val_eq_sign_mul a, val_eq_sign_mul b, sign_mul_sign, zpow_sub₀ two_ne_zero]
  cases fSign F a <;> cases fSign F b <;> simp <;> field_simp

variable (hc : Claim.Finite F c)
include hc

theorem roundsExact_fFma (nonzero : val F a * val F b + val F c ≠ 0) :
    ∃ v, fFma F m a b c = some v ∧ RoundsExact n F m (val F a * val F b + val F c) v := by
  have exact := alignInt_product (F := F) (a := a) (b := b) (c := c)
  refine ⟨_, ?_, roundsExact_fRoundInt m exact.symm nonzero⟩
  rw [← exact, ne_eq, mul_two_zpow_eq_zero_iff] at nonzero
  simp only [fFma, ha.1, ha.2, hb.1, hb.2, hc.1, hc.2, Bool.and_false, Bool.false_and]
  exact if_pos nonzero

/-- The zero that a fused multiply-add of value 0 gives (R345). -/
theorem fFma_of_val_eq_zero (zero : val F a * val F b + val F c = 0) :
    fFma F m a b c = some (if (fIsZero F a || fIsZero F b) && fSign F c == (fSign F a != fSign F b)
      then fZero n F (fSign F a != fSign F b) else fCancelZero n F m) := by
  have exact := alignInt_product (F := F) (a := a) (b := b) (c := c)
  rw [zero, mul_two_zpow_eq_zero_iff] at exact
  have factors : fInt F a * fInt F b = 0 ↔ (fIsZero F a || fIsZero F b) = true := by
    rw [Bool.or_eq_true, ← val_eq_zero_iff, ← val_eq_zero_iff, val_eq_fInt F a, val_eq_fInt F b,
      mul_two_zpow_eq_zero_iff, mul_two_zpow_eq_zero_iff, mul_eq_zero]
  have addend (factor : (fIsZero F a || fIsZero F b) = true) : fIsZero F c = true := by
    rw [Bool.or_eq_true, ← val_eq_zero_iff, ← val_eq_zero_iff, ← mul_eq_zero] at factor
    rwa [factor, zero_add, val_eq_zero_iff] at zero
  simp only [fFma, ha.1, ha.2, hb.1, hb.2, hc.1, hc.2, Bool.and_false, Bool.false_and, apply_ite some]
  refine (if_neg (not_not_intro exact)).trans (if_congr ?_ rfl rfl)
  rw [factors, Bool.and_eq_true, beq_iff_eq, eq_comm (a := fSign F c)]
  exact ⟨fun ⟨factor, _, sign⟩ => ⟨factor, sign⟩, fun ⟨factor, sign⟩ => ⟨factor, addend factor, sign⟩⟩

end Operands

theorem roundsExact_fConvert {k : Nat} {G : Fmt} {d : BitVec k} (hd : Claim.Finite G d)
    (nonzero : val G d ≠ 0) : ∃ v, fConvert n G F m d = some v ∧ RoundsExact n F m (val G d) v := by
  have notZero := not_fIsZero_of_val_ne_zero nonzero
  exact ⟨_, by simp only [fConvert, hd.1, hd.2, notZero]; rfl,
    roundsExact_fRoundInt m (val_eq_fInt G d) nonzero⟩

theorem roundsExact_fFromInt {v : Int} (nonzero : (v : ℚ) ≠ 0) :
    RoundsExact n F m v (fFromInt n F m v) := by
  rw [fFromInt, if_neg (Int.cast_ne_zero.1 nonzero)]
  exact roundsExact_fRoundInt m (by rw [zpow_zero, mul_one]) nonzero

end Exact

/-! ### NaN results (R343) -/

section NanResults
variable {n : Nat} {F : Fmt} (m : RMode) (neg : Bool)

theorem fOverflow_eq_fPack : ∃ mag ≤ fInfMag F, fOverflow n F m neg = fPack n F neg mag := by
  have infinite : ∃ mag ≤ fInfMag F, fInf n F neg = fPack n F neg mag := ⟨_, le_rfl, rfl⟩
  have greatest : ∃ mag ≤ fInfMag F, fMaxFinite n F neg = fPack n F neg mag := ⟨_, Nat.sub_le _ _, rfl⟩
  cases m <;> cases neg <;> assumption

/-- A rounding has the sign of the exact value and is no NaN. -/
theorem fRound_eq_fPack (num den : Nat) (e : Int) :
    ∃ mag ≤ fInfMag F, fRound n F m neg num den e = fPack n F neg mag := by
  rw [fRound]
  split
  · exact fOverflow_eq_fPack m neg
  · exact ⟨_, Nat.le_of_lt (Nat.lt_of_not_le ‹_›), rfl⟩

variable (format : IsFormat n F)
include format

theorem not_nan_fPack {mag : Nat} (number : mag ≤ fInfMag F) : fIsNan F (fPack n F neg mag) = false := by
  rw [← Bool.not_eq_true, fIsNan_iff, fMag_fPack (IsFormat.width format) (number.trans_lt (fInfMag_lt F))]
  exact Nat.not_lt_of_le number

theorem not_nan_fInf : fIsNan F (fInf n F neg) = false := not_nan_fPack neg format le_rfl

theorem not_nan_fZero : fIsNan F (fZero n F neg) = false := not_nan_fPack neg format (Nat.zero_le _)

theorem not_nan_fRound (num den : Nat) (e : Int) : fIsNan F (fRound n F m neg num den e) = false := by
  obtain ⟨mag, number, packed⟩ := fRound_eq_fPack (n := n) (F := F) m neg num den e
  rw [packed, not_nan_fPack neg format number]

variable {a b c v : BitVec n}

theorem not_nan_fAdd (result : fAdd F m a b = some v) : fIsNan F v = false := by
  revert result
  simp only [fAdd, fRoundInt, fCancelZero]
  split_ifs <;> rintro ⟨⟩ <;> simp_all [not_nan_fRound, not_nan_fZero]

theorem not_nan_fMul (result : fMul F m a b = some v) : fIsNan F v = false := by
  revert result
  simp only [fMul]
  split_ifs <;> rintro ⟨⟩ <;> simp only [not_nan_fRound, not_nan_fZero, not_nan_fInf, format]

theorem not_nan_fDiv (result : fDiv F m a b = some v) : fIsNan F v = false := by
  revert result
  simp only [fDiv]
  split_ifs <;> rintro ⟨⟩ <;> simp only [not_nan_fRound, not_nan_fZero, not_nan_fInf, format]

theorem not_nan_fFma (result : fFma F m a b c = some v) : fIsNan F v = false := by
  revert result
  simp only [fFma, fRoundInt, fCancelZero]
  split_ifs <;> rintro ⟨⟩ <;> simp_all [not_nan_fRound, not_nan_fZero, not_nan_fInf]

theorem not_nan_fSqrt (result : fSqrt F m a = some v) : fIsNan F v = false := by
  revert result
  simp only [fSqrt, fRoundSqrt]
  split_ifs <;> rintro ⟨⟩ <;> simp_all [not_nan_fRound]

theorem not_nan_fConvert {k : Nat} {G : Fmt} {d : BitVec k} (result : fConvert n G F m d = some v) :
    fIsNan F v = false := by
  revert result
  simp only [fConvert, fRoundInt]
  split_ifs <;> rintro ⟨⟩ <;> simp only [not_nan_fRound, not_nan_fZero, not_nan_fInf, format]

theorem not_nan_fFromInt (v : Int) : fIsNan F (fFromInt n F m v) = false := by
  rw [fFromInt, fRoundInt]
  split
  · exact not_nan_fZero _ format
  · exact not_nan_fRound _ _ format _ _ _

end NanResults
/-! ### Infinities and zeros (R344 to R346) -/

section Classes
variable {n : Nat} {F : Fmt} (format : IsFormat n F) {a b c : BitVec n}

include format

theorem fIsZero_eq_false_of_fIsInf (inf : fIsInf F a = true) : fIsZero F a = false := by
  rw [← Bool.not_eq_true, fIsZero_iff, (fIsInf_iff F a).1 inf, fInfMag]
  exact (Nat.mul_pos (fMaxExp_pos format) (Nat.two_pow_pos _)).ne'

theorem fIsInf_eq_false_of_fIsZero (zero : fIsZero F a = true) : fIsInf F a = false := by
  rw [← Bool.not_eq_true]
  exact fun inf => Bool.noConfusion ((fIsZero_eq_false_of_fIsInf format inf).symm.trans zero)

theorem finite_of_fIsZero (zero : fIsZero F a = true) : Claim.Finite F a :=
  ⟨fIsNan_eq_false_of_fIsZero a zero, fIsInf_eq_false_of_fIsZero format zero⟩

theorem fSign_fNeg (a : BitVec n) : fSign F (fNeg F a) = !fSign F a := by
  rw [fSign, fNeg, getLsbD_fWithSign F a _ (by rw [IsFormat.width format]; omega), if_pos rfl]

theorem fMag_fNeg (a : BitVec n) : fMag F (fNeg F a) = fMag F a := by
  rw [fMag_eq_toNat_mod, fMag_eq_toNat_mod]
  refine Nat.eq_of_testBit_eq fun k => ?_
  rw [Nat.testBit_mod_two_pow, Nat.testBit_mod_two_pow]
  by_cases below : k < fSignPos F
  · have inside : k < n := by rw [IsFormat.width format]; omega
    have bit := getLsbD_fWithSign F a (!fSign F a) inside
    rw [if_neg below.ne'] at bit
    exact congrArg _ bit
  · simp [below]

theorem val_fNeg (a : BitVec n) : val F (fNeg F a) = -val F a := by
  rw [val_eq_magVal, val_eq_magVal, fSign_fNeg format, fMag_fNeg format]
  cases fSign F a <;> simp [withSign]

theorem finite_fNeg (finite : Claim.Finite F a) : Claim.Finite F (fNeg F a) := by
  rw [finite_iff, fMag_fNeg format]
  exact (finite_iff F a).1 finite

end Classes
end Sys2Proof.Machine

namespace Sys2Proof.Proofs

open Sys2Proof.Machine Sys2Proof.Claim

/-- Settles O48: each list is the condition of the operation's first answer, and every other answer is
an operand of no NaN, a zero, an infinity or a rounding. -/
theorem nanResultsAreExactlyTheListed : Obligations.NanResultsAreExactlyTheListed := by
  intro n F m a b c format nan inf zero s
  refine ⟨?add, ?mul, ?div, ?sqrt, ?fma, ?results, fun k G d _ => ⟨?convert, fun v result => ?converted⟩,
    fun v => ?integer⟩
  case add => simp only [fAdd, nan, inf]; split_ifs <;> simp_all; tauto
  case mul => simp only [fMul, nan, inf, zero]; split_ifs <;> simp_all [or_assoc]
  case div => simp only [fDiv, nan, inf, zero]; split_ifs <;> simp_all [or_assoc]
  case sqrt => simp only [fSqrt, nan, zero]; split_ifs <;> simp_all
  case fma => simp only [fFma, nan, inf, zero, s]; split_ifs <;> simp_all; tauto
  case results =>
    rintro v (result | result | result | result | result) <;> refine Bool.eq_false_iff.1 ?_
    · exact not_nan_fAdd m format result
    · exact not_nan_fMul m format result
    · exact not_nan_fDiv m format result
    · exact not_nan_fSqrt m format result
    · exact not_nan_fFma m format result
  case convert => simp only [fConvert]; split_ifs <;> simp_all
  case converted => exact Bool.eq_false_iff.1 (not_nan_fConvert m format result)
  case integer => exact Bool.eq_false_iff.1 (not_nan_fFromInt m format v)

/-- Settles O50: sums are formed on the lesser of the two exponents, products and quotients of the
significands are exact, and each is rounded once. -/
theorem arithmeticRoundsTheExactValue : Obligations.ArithmeticRoundsTheExactValue := by
  intro n F m _ rounds
  have once {x : ℚ} {v : Option (BitVec n)} (found : x ≠ 0 → ∃ u, v = some u ∧ RoundsExact n F m x u) :
      rounds x v := fun nonzero => by
    obtain ⟨u, rfl, exact⟩ := found nonzero
    exact exact
  refine ⟨fun a b c ha hb hc => ⟨once (roundsExact_fAdd m ha hb), once (roundsExact_fMul m ha hb),
    fun _ => once (roundsExact_fDiv m ha hb), once (roundsExact_fFma m ha hb hc)⟩,
    fun k G d _ hd => once (roundsExact_fConvert m hd),
    fun v => once fun nonzero => ⟨_, rfl, roundsExact_fFromInt m nonzero⟩⟩

/-- Settles O49: each clause is a branch of the operation, and the exact zeros are those of
`fAdd_of_val_eq_zero` and `fFma_of_val_eq_zero`. -/
theorem infinitiesAndZeros : Obligations.InfinitiesAndZeros := by
  intro n F m a b format numberA numberB s inf zero cancelled
  have infNotZero {c : BitVec n} (infC : inf c) : fIsZero F c = false :=
    fIsZero_eq_false_of_fIsInf format infC
  have zeroNotInf {c : BitVec n} (zeroC : zero c) : fIsInf F c = false :=
    fIsInf_eq_false_of_fIsZero format zeroC
  refine ⟨fun infA finB => ?infFinite, fun infA infB sign => ?infInf, fun zeroA zeroB => ?zeros,
    fun finA nonzeroA => ?opposite, fun finA finB nonzeroA sum => ?cancel,
    fun infinite nonzeroA nonzeroB => ?mulInf, fun null finA finB => ?mulZero, fun infA finB => ?divInf,
    fun nonzeroA zeroB => ?divByZero, fun zeroA nonzeroB => ?divZero, fun finA infB => ?divByInf,
    fun c numberC => ⟨fun infinite nonzeroA nonzeroB sign => ?fmaInf, fun finA finB infC => ?fmaAddend,
      fun finA finB finC sum => fFma_of_val_eq_zero m finA finB finC sum⟩,
    fun zeroA => ?sqrtZero, fun infA positive => ?sqrtInf,
    fun k G d formatG => ⟨fun infD => ?convertInf, fun zeroD => ?convertZero⟩, if_pos rfl⟩
  case infFinite => simp_all [fAdd, inf]
  case infInf => simp_all [fAdd, inf]
  case zeros =>
    have sum : val F a + val F b = 0 := by
      rw [(val_eq_zero_iff a).2 zeroA, (val_eq_zero_iff b).2 zeroB, add_zero]
    rw [fAdd_of_val_eq_zero m (finite_of_fIsZero format zeroA) (finite_of_fIsZero format zeroB) sum,
      zeroA, zeroB]
    simp [cancelled, fCancelZero]
  case opposite =>
    rw [fAdd_of_val_eq_zero m finA (finite_fNeg format finA) (by rw [val_fNeg format, add_neg_cancel])]
    simp_all [zero, cancelled, fCancelZero]
  case cancel =>
    rw [fAdd_of_val_eq_zero m finA finB sum]
    simp_all [zero, cancelled, fCancelZero]
  case mulInf => simp_all [fMul, inf, zero, s]
  case mulZero => simp_all [fMul, inf, zero, s]
  case divInf =>
    have infA : fIsInf F a = true := infA
    have finB := Bool.eq_false_iff.2 finB
    simp [fDiv, numberA, numberB, infA, finB, infNotZero infA, s]
  case divByZero =>
    have nonzeroA := Bool.eq_false_iff.2 nonzeroA
    have zeroB : fIsZero F b = true := zeroB
    simp [fDiv, numberA, numberB, nonzeroA, zeroB, zeroNotInf zeroB, s]
  case divZero =>
    have zeroA : fIsZero F a = true := zeroA
    have nonzeroB := Bool.eq_false_iff.2 nonzeroB
    simp [fDiv, numberA, numberB, zeroA, nonzeroB, zeroNotInf zeroA, s]
  case divByInf =>
    have finA := Bool.eq_false_iff.2 finA
    have infB : fIsInf F b = true := infB
    simp [fDiv, numberA, numberB, finA, infB, infNotZero infB, s]
  case fmaInf => simp_all [fFma, inf, zero, s]
  case fmaAddend => simp_all [fFma, inf, Claim.Finite]
  case sqrtZero => simp_all [fSqrt, zero]
  case sqrtInf => simp_all [fSqrt, inf]
  case convertInf => simp [fConvert, fIsNan_eq_false_of_fIsInf d infD, infD]
  case convertZero =>
    simp [fConvert, fIsNan_eq_false_of_fIsZero d zeroD, fIsInf_eq_false_of_fIsZero formatG zeroD, zeroD]

end Sys2Proof.Proofs
end

section
/-! PROOF. One rounding (47_float_single R342, assumption log 9): the two neighbours of the exact value
among the magnitudes, which of them each direction takes, and what that says of the result. -/

namespace Sys2Proof.Machine

open Sys2Proof.Claim

/-! ### The neighbours of an exact value -/

/-- The value of a magnitude, in a field that may hold more than the rationals. -/
def magValIn (K : Type) [Field K] (F : Fmt) (k : Nat) : K := (magVal F k : K)

theorem magValIn_rat (F : Fmt) (k : Nat) : magValIn ℚ F k = magVal F k := Rat.cast_id _

section Rounding
variable {K : Type} [Field K] [LinearOrder K]

/-- Halfway between the values of the magnitudes `k` and `k + 1`. -/
def halfway (K : Type) [Field K] (F : Fmt) (k : Nat) : K := (magValIn K F k + magValIn K F (k + 1)) / 2

/-- R342 on a value `y` from that of the magnitude `k` to below that of `k + 1`: it rounds to the
greater of the two. -/
def RoundsUpIn (F : Fmt) (m : RMode) (neg : Bool) (k : Nat) (y : K) : Prop :=
  match m with
  | .rne => halfway K F k < y ∨ (y = halfway K F k ∧ k % 2 = 1)
  | .rtz => False
  | .rdn => neg = true ∧ y ≠ magValIn K F k
  | .rup => neg = false ∧ y ≠ magValIn K F k
  | .rmm => halfway K F k ≤ y

/-- The value `y` rounds to the magnitude `mag`, were there no greatest one. -/
def RoundsTo (F : Fmt) (m : RMode) (neg : Bool) (y : K) (mag : Nat) : Prop :=
  ∃ k, magValIn K F k ≤ y ∧ y < magValIn K F (k + 1) ∧
    ((RoundsUpIn F m neg k y ∧ mag = k + 1) ∨ (¬RoundsUpIn F m neg k y ∧ mag = k))

/-- The pattern of a rounded magnitude (R342). -/
def packRounded (n : Nat) (F : Fmt) (m : RMode) (neg : Bool) (mag : Nat) : BitVec n :=
  if fInfMag F ≤ mag then fOverflow n F m neg else fPack n F neg mag

/-! ### The model's rounding takes one of them -/

theorem two_zpow_le_iff_scaleQuot (num : Nat) {den : Nat} (positive : 0 < den) (d : Int) :
    (scaleQuot num den (-d)).2 ≤ (scaleQuot num den (-d)).1 ↔ (2 : ℚ) ^ d ≤ num / den := by
  have castPos : (0 : ℚ) < (scaleQuot num den (-d)).2 := by
    exact_mod_cast scaleQuot_den_pos num positive (-d)
  rw [← Nat.cast_le (α := ℚ), ← one_le_div castPos, scaleQuot_div, zpow_neg, ← div_eq_mul_inv,
    one_le_div (by positivity)]

theorem floorLog2_spec {num den : Nat} (numPos : 0 < num) (denPos : 0 < den) :
    (2 : ℚ) ^ floorLog2 num den ≤ num / den ∧ (num : ℚ) / den < 2 ^ (floorLog2 num den + 1) := by
  have castPos : (0 : ℚ) < den := by exact_mod_cast denPos
  have bounds {v : Nat} (pos : 0 < v) : (2 : ℚ) ^ (v.log2 : Int) ≤ v ∧
      (v : ℚ) < 2 ^ ((v.log2 : Int) + 1) := by
    refine ⟨?_, ?_⟩
    · rw [zpow_natCast]
      exact_mod_cast Nat.log2_self_le pos.ne'
    · rw [← Nat.cast_succ, zpow_natCast]
      exact_mod_cast Nat.lt_log2_self
  obtain ⟨numLow, numHigh⟩ := bounds numPos
  obtain ⟨denLow, denHigh⟩ := bounds denPos
  have low : (2 : ℚ) ^ ((num.log2 : Int) - den.log2 - 1) ≤ num / den := by
    rw [le_div_iff₀ castPos]
    calc (2 : ℚ) ^ ((num.log2 : Int) - den.log2 - 1) * den
        ≤ 2 ^ ((num.log2 : Int) - den.log2 - 1) * 2 ^ ((den.log2 : Int) + 1) := by gcongr
      _ = 2 ^ (num.log2 : Int) := by rw [← zpow_add₀ two_ne_zero]; ring_nf
      _ ≤ num := numLow
  have high : (num : ℚ) / den < 2 ^ ((num.log2 : Int) - den.log2 + 1) := by
    rw [div_lt_iff₀ castPos]
    calc (num : ℚ) < 2 ^ ((num.log2 : Int) + 1) := numHigh
      _ = 2 ^ ((num.log2 : Int) - den.log2 + 1) * 2 ^ (den.log2 : Int) := by
        rw [← zpow_add₀ two_ne_zero]; ring_nf
      _ ≤ 2 ^ ((num.log2 : Int) - den.log2 + 1) * den := by gcongr
  have reached := two_zpow_le_iff_scaleQuot num denPos ((num.log2 : Int) - den.log2)
  rw [floorLog2]
  split
  · exact ⟨reached.1 ‹_›, high⟩
  · rw [Int.sub_add_cancel]
    exact ⟨low, lt_of_not_ge fun above => absurd (reached.2 above) ‹_›⟩

/-- Among the magnitudes of one exponent, `f` of a last place above one is as the model reads it. -/
theorem roundsUpIn_iff {F : Fmt} {m : RMode} {neg : Bool} {k N : Nat} {f unit : ℚ} (unitPos : 0 < unit)
    (low : magVal F k = N * unit) (high : magVal F (k + 1) = (N + 1) * unit) (parity : k % 2 = N % 2) :
    RoundsUpIn F m neg k ((N + f) * unit) ↔ RoundsUpAt m neg (N % 2 == 1) f := by
  have middle : halfway ℚ F k = (N + 1 / 2) * unit := by
    rw [halfway, magValIn_rat, magValIn_rat, low, high]
    ring
  have above : (N + 1 / 2) * unit < (N + f) * unit ↔ 1 / 2 < f := by
    rw [mul_lt_mul_iff_left₀ unitPos, add_lt_add_iff_left]
  have atLeast : (N + 1 / 2) * unit ≤ (N + f) * unit ↔ 1 / 2 ≤ f := by
    rw [mul_le_mul_iff_left₀ unitPos, add_le_add_iff_left]
  have tie : (N + f) * unit = (N + 1 / 2) * unit ↔ f = 1 / 2 := by
    rw [mul_left_inj' unitPos.ne', add_right_inj]
  have exact : (N + f) * unit = N * unit ↔ f = 0 := by
    rw [mul_left_inj' unitPos.ne', add_eq_left]
  cases m
  case rne => rw [RoundsUpIn, RoundsUpAt, middle, above, tie, parity, beq_iff_eq]
  case rtz => rfl
  case rdn | rup => rw [RoundsUpIn, RoundsUpAt, magValIn_rat, low, ne_eq, exact]
  case rmm => rw [RoundsUpIn, RoundsUpAt, middle, atLeast]

/-- The last place that `fRound` chooses: the quotient scaled to it has the precision's bits, but for
a subnormal. -/
theorem scaled_bounds {num den : Nat} (numPos : 0 < num) (denPos : 0 < den) (e : Int) (fracBits : Nat)
    {minExp q : Int} (hq : q = max (e + floorLog2 num den - (fracBits : Int)) minExp) :
    (num : ℚ) / den * 2 ^ (e - q) < 2 ^ (fracBits + 1) ∧
      (q = minExp ∨ (2 : ℚ) ^ fracBits ≤ num / den * 2 ^ (e - q)) := by
  obtain ⟨logLow, logHigh⟩ := floorLog2_spec numPos denPos
  constructor
  · calc (num : ℚ) / den * 2 ^ (e - q) < 2 ^ (floorLog2 num den + 1) * 2 ^ (e - q) := by gcongr
      _ = 2 ^ (floorLog2 num den + 1 + (e - q)) := (zpow_add₀ two_ne_zero _ _).symm
      _ ≤ 2 ^ ((fracBits + 1 : Nat) : Int) := zpow_le_zpow_right₀ one_le_two (by push_cast; omega)
      _ = 2 ^ (fracBits + 1) := zpow_natCast _ _
  · refine or_iff_not_imp_left.2 fun normal => ?_
    calc (2 : ℚ) ^ fracBits = 2 ^ (fracBits : Int) := (zpow_natCast _ _).symm
      _ = 2 ^ (floorLog2 num den) * 2 ^ (e - q) := by
        rw [← zpow_add₀ two_ne_zero]
        congr 1
        omega
      _ ≤ num / den * 2 ^ (e - q) := by gcongr

theorem fRound_eq_packRounded {n : Nat} {F : Fmt} (format : IsFormat n F) (m : RMode) (neg : Bool)
    {num den : Nat} (numPos : 0 < num) (denPos : 0 < den) (e : Int) :
    ∃ mag, RoundsTo F m neg ((num : ℚ) / den * 2 ^ e) mag ∧
      fRound n F m neg num den e = packRounded n F m neg mag := by
  rw [fRound]
  set q := max (e + floorLog2 num den - (F.fracBits : Int)) (fMinExp F) with hq
  obtain ⟨fits, normal⟩ := scaled_bounds numPos denPos e F.fracBits hq
  obtain ⟨N, f, quotient, nonneg, below, rounded⟩ :=
    roundQuot_cases m neg (scaleQuot num den (e - q)).1 (scaleQuot_den_pos num denPos (e - q))
  refine ⟨_, ?_, rfl⟩
  rw [scaleQuot_div] at quotient
  rw [quotient] at fits normal
  have exact : (num : ℚ) / den * 2 ^ e = (N + f) * 2 ^ q := by
    rw [← quotient, mul_assoc, ← zpow_add₀ two_ne_zero, Int.sub_add_cancel]
  have exponent : ((q - fMinExp F).toNat : Int) + fMinExp F = q := by omega
  have fitsNat : N < 2 ^ (F.fracBits + 1) := by
    rw [← Nat.cast_lt (α := ℚ)]
    push_cast
    linarith
  have normalNat : (q - fMinExp F).toNat = 0 ∨ 2 ^ F.fracBits ≤ N := by
    refine normal.imp (fun subnormal => by omega) fun reached => Nat.le_of_lt_succ ?_
    rw [← Nat.cast_lt (α := ℚ)]
    push_cast
    linarith
  have low := magVal_units F normalNat fitsNat.le
  have high := magVal_units F (r := N + 1) (normalNat.imp_right Nat.le_succ_of_le) fitsNat
  rw [exponent] at low high
  rw [← Nat.add_assoc, Nat.cast_add, Nat.cast_one] at high
  have even : 2 ^ F.fracBits % 2 = 0 := by
    rw [Nat.pow_mod, Nat.mod_self, Nat.zero_pow (IsFormat.fracBits_pos format), Nat.zero_mod]
  have parity : ((q - fMinExp F).toNat * 2 ^ F.fracBits + N) % 2 = N % 2 := by
    rw [Nat.add_mod, Nat.mul_mod, even, Nat.mul_zero, Nat.zero_mod, Nat.zero_add, Nat.mod_mod]
  have unitPos : (0 : ℚ) < 2 ^ q := by positivity
  rw [exact]
  refine ⟨(q - fMinExp F).toNat * 2 ^ F.fracBits + N, ?_, ?_, ?_⟩
  · rw [magValIn_rat, low]
    gcongr
    linarith
  · rw [magValIn_rat, high]
    gcongr
  · rw [roundsUpIn_iff unitPos low high parity]
    exact rounded.imp (And.imp_right fun up => by rw [up, Nat.add_assoc])
      (And.imp_right fun down => by rw [down])

end Rounding
end Sys2Proof.Machine
end

section
/-! PROOF. What one rounding says of its result (47_float_single R342, assumption log 9): monotone and
exact, tight in the directed modes, nearest in the other two, and exact where widening. -/

namespace Sys2Proof.Machine

open Sys2Proof.Claim

section Rounded
variable {K : Type} [Field K] [LinearOrder K] {F : Fmt} {m : RMode} {neg : Bool}
  {y : K} {mag : Nat}

/-- The direction drops the part of the magnitude beyond the last place (R342). -/
def truncates : RMode → Bool → Bool
  | .rtz, _ => true
  | .rdn, neg => !neg
  | .rup, neg => neg
  | .rne, _ => false
  | .rmm, _ => false

theorem RoundsTo.magValIn_le (rounds : RoundsTo F m neg y mag) (direction : truncates m neg = true) :
    magValIn K F mag ≤ y := by
  obtain ⟨k, low, -, ⟨up, rfl⟩ | ⟨-, rfl⟩⟩ := rounds
  · cases m <;> simp_all [truncates, RoundsUpIn]
  · exact low

theorem RoundsTo.le_magValIn (rounds : RoundsTo F m neg y mag) (directed : m = .rdn ∨ m = .rup)
    (direction : truncates m neg = false) : y ≤ magValIn K F mag := by
  obtain ⟨k, -, high, ⟨-, rfl⟩ | ⟨down, rfl⟩⟩ := rounds
  · exact high.le
  · rcases directed with rfl | rfl <;> simp_all [truncates, RoundsUpIn]

theorem halfway_le_of_roundsUpIn {k : Nat} (nearest : m = .rne ∨ m = .rmm) (up : RoundsUpIn F m neg k y) :
    halfway K F k ≤ y ∧ (y = halfway K F k → m = .rne → k % 2 = 1) := by
  rcases nearest with rfl | rfl
  · rcases up with above | ⟨tie, odd⟩
    · exact ⟨above.le, fun tie => absurd tie above.ne'⟩
    · exact ⟨tie.ge, fun _ _ => odd⟩
  · exact ⟨up, fun _ => nofun⟩

theorem le_halfway_of_not_roundsUpIn {k : Nat} (nearest : m = .rne ∨ m = .rmm)
    (down : ¬RoundsUpIn F m neg k y) :
    y ≤ halfway K F k ∧ (y = halfway K F k → m = .rne ∧ k % 2 = 0) := by
  rcases nearest with rfl | rfl
  · obtain ⟨notAbove, notOdd⟩ := not_or.1 down
    exact ⟨le_of_not_gt notAbove, fun tie => ⟨rfl, by simpa [tie] using notOdd⟩⟩
  · exact ⟨(lt_of_not_ge down).le, fun tie => absurd tie.ge down⟩

section Mono
variable [IsStrictOrderedRing K]

theorem magValIn_strictMono (K : Type) [Field K] [LinearOrder K] [IsStrictOrderedRing K] (F : Fmt) :
    StrictMono (magValIn K F) :=
  Rat.cast_strictMono.comp (magVal_strictMono F)

theorem magValIn_lt_halfway (F : Fmt) (k : Nat) : magValIn K F k < halfway K F k :=
  left_lt_add_div_two.2 (magValIn_strictMono K F k.lt_succ_self)

theorem halfway_lt_magValIn (F : Fmt) (k : Nat) : halfway K F k < magValIn K F (k + 1) :=
  add_div_two_lt_right.2 (magValIn_strictMono K F k.lt_succ_self)

/-- A magnitude's own value does not round up. -/
theorem not_roundsUpIn_magValIn (F : Fmt) (m : RMode) (neg : Bool) (k : Nat) :
    ¬RoundsUpIn F m neg k (magValIn K F k) := by
  have below := magValIn_lt_halfway (K := K) F k
  cases m <;> simp [RoundsUpIn, below.not_gt, below.ne, below]

/-- Rounding does not pass a magnitude above the value. -/
theorem RoundsTo.le_of_le_magValIn (rounds : RoundsTo F m neg y mag) {j : Nat}
    (above : y ≤ magValIn K F j) :
    mag ≤ j := by
  obtain ⟨k, low, -, ⟨up, rfl⟩ | ⟨-, rfl⟩⟩ := rounds
  · refine Nat.lt_of_le_of_ne ((magValIn_strictMono K F).le_iff_le.1 (low.trans above)) ?_
    rintro rfl
    rw [le_antisymm above low] at up
    exact not_roundsUpIn_magValIn F m neg k up
  · exact (magValIn_strictMono K F).le_iff_le.1 (low.trans above)

/-- Rounding does not pass a magnitude below the value. -/
theorem RoundsTo.ge_of_magValIn_le (rounds : RoundsTo F m neg y mag) {j : Nat}
    (below : magValIn K F j ≤ y) :
    j ≤ mag := by
  obtain ⟨k, -, high, cases⟩ := rounds
  have reached : j < k + 1 := (magValIn_strictMono K F).lt_iff_lt.1 (below.trans_lt high)
  omega

theorem RoundsTo.eq_of_eq_magValIn (rounds : RoundsTo F m neg y mag) {j : Nat} (exact : y = magValIn K F j) :
    mag = j :=
  le_antisymm (rounds.le_of_le_magValIn exact.le) (rounds.ge_of_magValIn_le exact.ge)

theorem nearer_of_le_middle {p q : K} (less : p < q) (low : y ≤ (q + p) / 2) :
    |p - y| ≤ |q - y| ∧ (|p - y| = |q - y| → y = (q + p) / 2) := by
  rw [le_div_iff₀ two_pos] at low
  rw [eq_div_iff two_ne_zero]
  have bound : |p - y| ≤ q - y := abs_le.2 ⟨by linarith, by linarith⟩
  refine ⟨bound.trans (le_abs_self _), fun tie => ?_⟩
  rcases abs_eq_abs.1 tie with same | opposite <;> linarith

theorem nearer_of_middle_le {p q : K} (less : q < p) (high : (q + p) / 2 ≤ y) :
    |p - y| ≤ |q - y| ∧ (|p - y| = |q - y| → y = (q + p) / 2) := by
  have mirrored := nearer_of_le_middle (y := -y) (neg_lt_neg less) (by linarith)
  rw [← neg_sub', ← neg_sub', abs_neg, abs_neg] at mirrored
  exact mirrored.imp_right fun middle tie => by linarith [middle tie]

/-- Of all magnitudes the rounded one is nearest; another as near is the other neighbour. -/
theorem RoundsTo.nearest (rounds : RoundsTo F m neg y mag) (nearest : m = .rne ∨ m = .rmm) {j : Nat}
    (other : j ≠ mag) : |magValIn K F mag - y| ≤ |magValIn K F j - y| ∧
    (|magValIn K F mag - y| = |magValIn K F j - y| →
      (m = .rne → mag % 2 = 0) ∧ (m = .rmm → j < mag)) := by
  have mono := magValIn_strictMono K F
  obtain ⟨k, low, high, ⟨up, rfl⟩ | ⟨down, rfl⟩⟩ := rounds
  · obtain ⟨above, odd⟩ := halfway_le_of_roundsUpIn nearest up
    rcases Nat.lt_or_gt_of_ne other with below | beyond
    · have ordered := mono.monotone (Nat.le_of_lt_succ below)
      have middle : (magValIn K F j + magValIn K F (k + 1)) / 2 ≤ halfway K F k := by
        rw [halfway]; linarith
      refine (nearer_of_middle_le (mono below) (middle.trans above)).imp_right fun tied tie => ?_
      have odd := odd (le_antisymm ((tied tie).le.trans middle) above)
      exact ⟨fun rne => by have := odd rne; omega, fun _ => below⟩
    · have ordered := mono beyond
      refine (nearer_of_le_middle ordered (by linarith)).imp_right fun tied tie => ?_
      linarith [tied tie]
  · obtain ⟨below, even⟩ := le_halfway_of_not_roundsUpIn nearest down
    rcases Nat.lt_or_gt_of_ne other with under | beyond
    · have ordered := mono under
      refine (nearer_of_middle_le ordered (by linarith)).imp_right fun tied tie => ?_
      linarith [tied tie]
    · have ordered := mono.monotone beyond
      have middle : halfway K F mag ≤ (magValIn K F j + magValIn K F mag) / 2 := by
        rw [halfway]; linarith
      refine (nearer_of_le_middle (mono beyond) (below.trans middle)).imp_right fun tied tie => ?_
      obtain ⟨rne, parity⟩ := even (le_antisymm below (middle.trans (tied tie).ge))
      exact ⟨fun _ => parity, fun rmm => RMode.noConfusion (rne.symm.trans rmm)⟩

/-- Below an odd magnitude `j` and half a last place more, a rounding to nearest stays at most `j`. -/
theorem RoundsTo.le_iff_lt_halfway (rounds : RoundsTo F m neg y mag) (nearest : m = .rne ∨ m = .rmm)
    {j : Nat} (odd : j % 2 = 1) : mag ≤ j ↔ y < halfway K F j := by
  have mono := magValIn_strictMono K F
  have beyond := magValIn_lt_halfway (K := K) F j
  have within := halfway_lt_magValIn (K := K) F j
  obtain ⟨k, low, high, rounded⟩ := rounds
  rcases Nat.lt_trichotomy k j with below | rfl | above
  · have less := high.trans_le (mono.monotone below)
    exact iff_of_true (by omega) (less.trans beyond)
  · rcases rounded with ⟨up, rfl⟩ | ⟨down, rfl⟩
    · exact iff_of_false (by omega) (halfway_le_of_roundsUpIn nearest up).1.not_gt
    · obtain ⟨atMost, even⟩ := le_halfway_of_not_roundsUpIn nearest down
      refine iff_of_true le_rfl (lt_of_le_of_ne atMost fun tie => ?_)
      have := (even tie).2
      omega
  · have reached := (mono.monotone above).trans low
    exact iff_of_false (by omega) (within.trans_le reached).not_gt

end Mono
end Rounded

/-! ### The pattern of the result -/

section Packed
variable {n : Nat} {F : Fmt} (format : IsFormat n F) (m : RMode) (neg : Bool) (mag : Nat)
include format

theorem fInfMag_pos : 0 < fInfMag F := Nat.mul_pos (fMaxExp_pos format) (Nat.two_pow_pos _)

omit format in
theorem fOverflow_eq_fPack_truncates : fOverflow n F m neg =
    fPack n F neg (if truncates m neg then fInfMag F - 1 else fInfMag F) := by
  cases m <;> cases neg <;> rfl

theorem packRounded_eq_fPack : packRounded n F m neg mag =
    fPack n F neg (min mag (if truncates m neg then fInfMag F - 1 else fInfMag F)) := by
  have positive := fInfMag_pos format
  rw [packRounded]
  split
  case isTrue overflow => rw [fOverflow_eq_fPack_truncates, min_eq_right (by split <;> omega)]
  case isFalse fits => rw [min_eq_left (by split <;> omega)]

theorem fMag_packRounded : fMag F (packRounded n F m neg mag) =
    min mag (if truncates m neg then fInfMag F - 1 else fInfMag F) := by
  rw [packRounded_eq_fPack format, fMag_fPack (IsFormat.width format)]
  have fits := fInfMag_lt F
  split <;> omega

theorem fSign_packRounded : fSign F (packRounded n F m neg mag) = neg := by
  rw [packRounded_eq_fPack format, fSign_fPack (IsFormat.width format)]
  have fits := fInfMag_lt F
  split <;> omega

theorem finite_packRounded_iff : Claim.Finite F (packRounded n F m neg mag) ↔
    truncates m neg = true ∨ mag < fInfMag F := by
  have positive := fInfMag_pos format
  rw [finite_iff, fMag_packRounded format]
  split <;> simp_all

theorem fMag_packRounded_of_lt (fits : mag < fInfMag F) : fMag F (packRounded n F m neg mag) = mag := by
  rw [fMag_packRounded format, min_eq_left]
  split <;> omega

end Packed
end Sys2Proof.Machine
end

section
/-! PROOF. The rounding obligations: the directed modes, the modes to nearest, and the exact conversions
(47_float_single R342, R351, R352, assumption log 9). -/

namespace Sys2Proof.Machine

open Sys2Proof.Claim

/-! ### Directed rounding -/

section Signs
variable {x B v : ℚ}

theorem le_of_abs_le (nonneg : 0 ≤ B) (greatest : |v| ≤ x → |v| ≤ B) (below : v ≤ x) : v ≤ B := by
  rcases le_total v 0 with negative | positive
  · exact negative.trans nonneg
  · rw [abs_of_nonneg positive] at greatest
    exact greatest below

theorem neg_le_of_abs_le (nonneg : 0 ≤ B) (greatest : |v| ≤ x → |v| ≤ B) (above : -x ≤ v) : -B ≤ v :=
  neg_le.1 (le_of_abs_le nonneg (by rwa [abs_neg]) (neg_le.1 above))

theorem le_of_le_abs (positive : 0 < x) (least : x ≤ |v| → B ≤ |v|) (above : x ≤ v) : B ≤ v := by
  rw [abs_of_pos (positive.trans_le above)] at least
  exact least above

theorem le_neg_of_le_abs (positive : 0 < x) (least : x ≤ |v| → B ≤ |v|) (below : v ≤ -x) : v ≤ -B :=
  le_neg.1 (le_of_le_abs positive (by rwa [abs_neg]) (le_neg.1 below))

end Signs

section Directed
variable {n : Nat} {F : Fmt} (format : IsFormat n F) {m : RMode} {neg : Bool} {x : ℚ} {mag : Nat}
  (rounds : RoundsTo F m neg x mag)
include format rounds

/-- A truncated magnitude is the greatest finite one not beyond the exact value. -/
theorem abs_val_packRounded_of_truncates (direction : truncates m neg = true) :
    |val F (packRounded n F m neg mag)| ≤ x ∧ ∀ c : BitVec n, Claim.Finite F c → |val F c| ≤ x →
      |val F c| ≤ |val F (packRounded n F m neg mag)| := by
  have mono := (magVal_strictMono F).monotone
  have top := rounds.magValIn_le direction
  rw [abs_val, fMag_packRounded format, if_pos direction]
  rw [magValIn_rat] at top
  refine ⟨(mono (min_le_left _ _)).trans top, fun c finite below => ?_⟩
  rw [abs_val] at below ⊢
  rw [← magValIn_rat] at below
  have fits := (finite_iff F c).1 finite
  exact mono (le_min (rounds.ge_of_magValIn_le below) (by omega))

/-- A magnitude rounded away from zero is the least not below the exact value. -/
theorem abs_val_packRounded_of_directed (directed : m = .rdn ∨ m = .rup)
    (direction : truncates m neg = false) (finite : Claim.Finite F (packRounded n F m neg mag)) :
    x ≤ |val F (packRounded n F m neg mag)| ∧ ∀ c : BitVec n, x ≤ |val F c| →
      |val F (packRounded n F m neg mag)| ≤ |val F c| := by
  have fits : mag < fInfMag F := by
    simpa [direction] using (finite_packRounded_iff format m neg mag).1 finite
  have bottom := rounds.le_magValIn directed direction
  rw [magValIn_rat] at bottom
  rw [abs_val, fMag_packRounded_of_lt format m neg mag fits]
  refine ⟨bottom, fun c above => ?_⟩
  rw [abs_val] at above ⊢
  rw [← magValIn_rat] at above
  exact (magVal_strictMono F).monotone (rounds.le_of_le_magValIn above)

/-- The exact value of an infinite result lies beyond every finite value. -/
theorem abs_val_lt_of_not_finite_packRounded
    (infinite : ¬Claim.Finite F (packRounded n F m neg mag)) {c : BitVec n} (finite : Claim.Finite F c) :
    |val F c| < x := by
  rw [finite_packRounded_iff format, not_or, Nat.not_lt] at infinite
  by_contra above
  rw [not_lt, abs_val, ← magValIn_rat] at above
  exact absurd ((finite_iff F c).1 finite)
    (Nat.not_lt.2 (infinite.2.trans (rounds.le_of_le_magValIn above)))

end Directed

/-! ### Rounding to nearest -/

section Nearest
variable {n : Nat} {F : Fmt} (format : IsFormat n F)
include format

/-- The exponent of the last place of the greatest finite value. -/
theorem top_exponent : ((fMaxExp F - 2 : Nat) : Int) + fMinExp F = emax F - F.fracBits := by
  rcases format with ⟨-, rfl⟩ | ⟨-, rfl⟩ <;> decide

/-- The magnitude of the greatest finite value, in units in its last place. -/
theorem greatest_units : fInfMag F - 1 = (fMaxExp F - 2) * 2 ^ F.fracBits + (2 ^ (F.fracBits + 1) - 1) := by
  obtain ⟨k, exponents⟩ : ∃ k, fMaxExp F = k + 2 := by
    rcases format with ⟨-, rfl⟩ | ⟨-, rfl⟩
    · exact ⟨253, rfl⟩
    · exact ⟨2045, rfl⟩
  have positive := Nat.two_pow_pos F.fracBits
  rw [fInfMag, exponents, Nat.add_sub_cancel, Nat.add_mul, Nat.pow_succ, Nat.mul_comm _ 2]
  omega

theorem greatest_odd : (fInfMag F - 1) % 2 = 1 := by
  rcases format with ⟨-, rfl⟩ | ⟨-, rfl⟩ <;> rfl

/-- Half a last place beyond the greatest finite value. -/
theorem halfway_greatest :
    halfway ℚ F (fInfMag F - 1) = (2 - (1 / 2) ^ (F.fracBits + 1)) * 2 ^ emax F := by
  have carry : 2 ^ F.fracBits ≤ 2 ^ (F.fracBits + 1) - 1 := by
    have := Nat.two_pow_pos F.fracBits
    rw [Nat.pow_succ]
    omega
  have low := magVal_units F (q := fMaxExp F - 2) (.inr carry) (Nat.sub_le _ 1)
  have high := magVal_units F (q := fMaxExp F - 2)
    (.inr (Nat.pow_le_pow_right two_pos (Nat.le_succ _))) le_rfl
  have next : fInfMag F - 1 + 1 = (fMaxExp F - 2) * 2 ^ F.fracBits + 2 ^ (F.fracBits + 1) := by
    rw [greatest_units format, Nat.add_assoc, Nat.sub_add_cancel Nat.one_le_two_pow]
  rw [halfway, magValIn_rat, magValIn_rat, next, high, greatest_units format, low, top_exponent format,
    zpow_sub₀ two_ne_zero, zpow_natCast, Nat.cast_sub Nat.one_le_two_pow]
  push_cast
  rw [one_div, inv_pow, pow_succ]
  field_simp
  ring

variable {m : RMode} (nearest : m = .rne ∨ m = .rmm) {neg : Bool} {x : ℚ} {mag : Nat}
  (rounds : RoundsTo F m neg x mag)
include nearest rounds

theorem finite_packRounded_iff_lt_halfway : Claim.Finite F (packRounded n F m neg mag) ↔
    x < (2 - (1 / 2) ^ (F.fracBits + 1)) * 2 ^ emax F := by
  have positive := fInfMag_pos format
  have notTruncates : truncates m neg = false := by rcases nearest with rfl | rfl <;> rfl
  rw [finite_packRounded_iff format, notTruncates, ← halfway_greatest format,
    ← rounds.le_iff_lt_halfway nearest (greatest_odd format), or_iff_right Bool.false_ne_true]
  omega

end Nearest

theorem withSign_zero (neg : Bool) : withSign neg (0 : ℚ) = 0 := by cases neg <;> simp [withSign]

theorem fMag_mod_two {n : Nat} {F : Fmt} (format : IsFormat n F) (b : BitVec n) :
    fMag F b % 2 = fFrac F b % 2 := by
  rw [← fMag_mod, Nat.mod_mod_of_dvd _ (dvd_pow_self 2 (IsFormat.fracBits_pos format).ne')]

/-- The distance of a finite value from one of the sign `neg`. -/
theorem abs_val_sub_withSign {n : Nat} (F : Fmt) (c : BitVec n) (neg : Bool) {x : ℚ} (nonneg : 0 ≤ x) :
    |val F c - withSign neg x| =
      if fSign F c = neg then |magVal F (fMag F c) - x| else magVal F (fMag F c) + x := by
  have both : |magVal F (fMag F c) + x| = magVal F (fMag F c) + x :=
    abs_of_nonneg (add_nonneg (magVal_nonneg F _) nonneg)
  rw [val_eq_magVal]
  cases neg <;> cases fSign F c
  · rfl
  · rw [if_neg Bool.true_eq_false.mp, ← both, ← abs_neg (_ + x), neg_add']
    rfl
  · rw [if_neg Bool.false_ne_true, ← both, ← sub_neg_eq_add]
    rfl
  · rw [if_pos rfl, ← abs_neg (_ - x), neg_sub']
    rfl

section Nearest
variable {n : Nat} {F : Fmt} {m : RMode} (nearest : m = .rne ∨ m = .rmm) {neg : Bool} {x : ℚ}
  {b : BitVec n} (sign : fSign F b = neg) (rounds : RoundsTo F m neg x (fMag F b)) (positive : 0 < x)
  (c : BitVec n)
include nearest sign rounds positive

/-- Against a magnitude of the same sign the nearest magnitude is nearest; a value of the other sign is
no nearer than zero. -/
theorem nearest_val : |val F b - withSign neg x| ≤ |val F c - withSign neg x| ∧
    (|val F b - withSign neg x| = |val F c - withSign neg x| → val F c ≠ val F b →
      (m = .rne → fMag F b % 2 = 0) ∧ (m = .rmm → |val F c| < |val F b|)) := by
  have mono := magVal_strictMono F
  have closest {j : Nat} (other : j ≠ fMag F b) := rounds.nearest nearest other
  simp only [magValIn_rat] at closest
  rw [abs_val_sub_withSign F b neg positive.le, if_pos sign, abs_val_sub_withSign F c neg positive.le,
    abs_val, abs_val, mono.lt_iff_lt]
  split
  case isTrue same =>
    by_cases equal : fMag F c = fMag F b
    · rw [equal, val_eq_magVal, val_eq_magVal, sign, same, equal]
      exact ⟨le_rfl, fun _ differ => absurd rfl differ⟩
    · exact (closest equal).imp_right fun tie equal _ => tie equal
  case isFalse opposite =>
    have fromZero : |magVal F 0 - x| = x := by rw [magVal_zero, zero_sub, abs_neg, abs_of_pos positive]
    have beyond : x ≤ magVal F (fMag F c) + x := le_add_of_nonneg_left (magVal_nonneg F _)
    by_cases null : fMag F b = 0
    · rw [null, fromZero]
      refine ⟨beyond, fun tie differ => absurd ?_ differ⟩
      rw [val_eq_magVal, val_eq_magVal, null, right_eq_add.1 tie, magVal_zero, withSign_zero, withSign_zero]
    · obtain ⟨near, tied⟩ := closest (Ne.symm null)
      rw [fromZero] at near tied
      refine ⟨near.trans beyond, fun tie differ => ?_⟩
      have zero : fMag F c = 0 := by
        rw [← mono.injective.eq_iff, magVal_zero]
        linarith [magVal_nonneg F (fMag F c)]
      rw [zero, magVal_zero, zero_add] at tie
      rw [zero]
      exact tied tie

end Nearest
end Sys2Proof.Machine

namespace Sys2Proof.Proofs

open Sys2Proof.Machine Sys2Proof.Claim

/-- Settles O51: each directed mode truncates the magnitude or rounds it up to the least not below, and
the sign says which. -/
theorem directedRoundingIsTight : Obligations.DirectedRoundingIsTight := by
  intro n F m neg num den e format numPos denPos r b
  have positive : 0 < (num : ℚ) / den * 2 ^ e := by positivity
  obtain ⟨mag, rounds, packed⟩ := fRound_eq_packRounded format m neg numPos denPos e
  have b_eq : b = packRounded n F m neg mag := packed
  have exact : r = withSign neg ((num : ℚ) / den * 2 ^ e) := by cases neg <;> simp [r, withSign]
  have absR : |r| = (num : ℚ) / den * 2 ^ e := by rw [exact, abs_withSign, abs_of_pos positive]
  have sign : fSign F b = neg := by rw [b_eq, fSign_packRounded format]
  have value : val F b = withSign neg |val F b| := by rw [abs_val, val_eq_magVal, sign]
  refine ⟨not_nan_fRound m neg format num den e, sign, fun infinite => ?_, fun finite => ?_⟩
  · rw [b_eq, finite_packRounded_iff format, not_or] at infinite
    refine ⟨?_, ?_, ?_, fun _ c finite => ?_⟩
    · rintro rfl
      exact infinite.1 rfl
    · rintro rfl
      simpa [truncates] using infinite.1
    · rintro rfl
      simpa [truncates] using infinite.1
    · rw [absR]
      exact abs_val_lt_of_not_finite_packRounded format rounds
        (mt (finite_packRounded_iff format m neg mag).1 (not_or.2 infinite)) finite
  · rw [b_eq] at value finite ⊢
    refine ⟨?rdn, ?rup, ?rtz⟩
    case rdn =>
      rintro rfl
      rw [value, exact]
      cases neg
      · obtain ⟨bound, greatest⟩ := abs_val_packRounded_of_truncates format rounds rfl
        exact ⟨bound, fun c finite => le_of_abs_le (abs_nonneg _) (greatest c finite)⟩
      · obtain ⟨bound, least⟩ := abs_val_packRounded_of_directed format rounds (.inl rfl) rfl finite
        exact ⟨neg_le_neg bound, fun c _ => le_neg_of_le_abs positive (least c)⟩
    case rup =>
      rintro rfl
      rw [value, exact]
      cases neg
      · obtain ⟨bound, least⟩ := abs_val_packRounded_of_directed format rounds (.inr rfl) rfl finite
        exact ⟨bound, fun c _ => le_of_le_abs positive (least c)⟩
      · obtain ⟨bound, greatest⟩ := abs_val_packRounded_of_truncates format rounds rfl
        exact ⟨neg_le_neg bound, fun c finite => neg_le_of_abs_le (abs_nonneg _) (greatest c finite)⟩
    case rtz =>
      rintro rfl
      rw [absR]
      exact abs_val_packRounded_of_truncates format rounds rfl

/-- Settles O52: a result is finite up to halfway beyond the greatest, which is odd, and of all
magnitudes it is a neighbour of the exact value, on its side of halfway. -/
theorem nearestRoundingIsNearest : Obligations.NearestRoundingIsNearest := by
  intro n F m neg num den e format numPos denPos nearest r b
  have positive : 0 < (num : ℚ) / den * 2 ^ e := by positivity
  obtain ⟨mag, rounds, packed⟩ := fRound_eq_packRounded format m neg numPos denPos e
  have b_eq : b = packRounded n F m neg mag := packed
  have exact : r = withSign neg ((num : ℚ) / den * 2 ^ e) := by cases neg <;> simp [r, withSign]
  have absR : |r| = (num : ℚ) / den * 2 ^ e := by rw [exact, abs_withSign, abs_of_pos positive]
  have sign : fSign F b = neg := by rw [b_eq, fSign_packRounded format]
  rw [absR]
  refine ⟨b_eq ▸ finite_packRounded_iff_lt_halfway format nearest rounds, fun finite c _ => ?_⟩
  have notTruncates : truncates m neg = false := by rcases nearest with rfl | rfl <;> rfl
  have fits : mag < fInfMag F := by
    rw [b_eq, finite_packRounded_iff format, notTruncates] at finite
    exact finite.resolve_left Bool.false_ne_true
  rw [← fMag_packRounded_of_lt format m neg mag fits, ← b_eq] at rounds
  rw [exact, ← fMag_mod_two format]
  exact nearest_val nearest sign rounds positive c

end Sys2Proof.Proofs
end

section
/-! PROOF. Exact roundings: a number of at most the precision's bits, not below the least place, is a value
of the format (47_float_single R351, R352), so widening a single depends on no direction. -/

namespace Sys2Proof.Machine

open Sys2Proof.Claim

section Exact
variable {n : Nat} {F : Fmt} {m : RMode} {neg : Bool} {N : Nat} {E : Int}
  (fits : N < 2 ^ (F.fracBits + 1)) (least : fMinExp F ≤ E)

/-- The magnitudes from which a power of 2 is the value. -/
theorem magVal_two_pow (F : Fmt) (i : Nat) :
    magVal F ((i + 1) * 2 ^ F.fracBits) = 2 ^ ((i : Int) + fMinExp F + F.fracBits) := by
  rw [Nat.succ_mul, magVal_units F (.inr le_rfl) (Nat.pow_le_pow_right two_pos (Nat.le_succ _)),
    Nat.cast_pow, Nat.cast_ofNat, ← zpow_natCast, ← zpow_add₀ two_ne_zero, add_comm]

include fits least

theorem RoundsTo.magVal_eq {mag : Nat} (rounds : RoundsTo F m neg ((N : ℚ) * 2 ^ E) mag) :
    magVal F mag = N * 2 ^ E := by
  have found := rounds
  obtain ⟨k, low, high, -⟩ := found
  obtain ⟨q, r, rfl, normal, small⟩ := exists_units F k
  have units := magVal_units F normal small.le
  have next := magVal_units F (r := r + 1) (normal.imp_right Nat.le_succ_of_le) small
  rw [magValIn_rat, units] at low
  rw [magValIn_rat, Nat.add_assoc, next] at high
  have place : (q : Int) + fMinExp F ≤ E := by
    rcases normal with rfl | normal
    · simpa using least
    · refine Int.le_of_lt_add_one ((zpow_lt_zpow_iff_right₀ (one_lt_two (α := ℚ))).1 ?_)
      refine lt_of_mul_lt_mul_left (a := (2 : ℚ) ^ F.fracBits) ?_ (by positivity)
      calc (2 : ℚ) ^ F.fracBits * 2 ^ ((q : Int) + fMinExp F)
          ≤ r * 2 ^ ((q : Int) + fMinExp F) := by gcongr; exact_mod_cast normal
        _ ≤ N * 2 ^ E := low
        _ < 2 ^ (F.fracBits + 1) * 2 ^ E := by gcongr; exact_mod_cast fits
        _ = 2 ^ F.fracBits * 2 ^ (E + 1) := by rw [pow_succ, zpow_add_one₀ two_ne_zero]; ring
  obtain ⟨d, rfl⟩ := Int.le.dest place
  have whole : (N : ℚ) * 2 ^ ((q : Int) + fMinExp F + d) =
      (N * 2 ^ d : Nat) * 2 ^ ((q : Int) + fMinExp F) := by
    rw [zpow_add₀ two_ne_zero, zpow_natCast]
    push_cast
    ring
  have unitPos : (0 : ℚ) < 2 ^ ((q : Int) + fMinExp F) := by positivity
  rw [whole, mul_le_mul_iff_left₀ unitPos, Nat.cast_le] at low
  rw [whole, mul_lt_mul_iff_left₀ unitPos, Nat.cast_lt] at high
  have equal : N * 2 ^ d = r := by omega
  rw [whole, equal, ← units] at rounds ⊢
  rw [rounds.eq_of_eq_magValIn (magValIn_rat F _).symm]

/-- A rounding whose exact value is one of the format's finite values gives that value. -/
theorem fRound_exact (format : IsFormat n F) (positive : 0 < N) {j : Nat} (finite : j < fInfMag F)
    (bound : (N : ℚ) * 2 ^ E ≤ magVal F j) :
    Claim.Finite F (fRound n F m neg N 1 E) ∧
      val F (fRound n F m neg N 1 E) = withSign neg (N * 2 ^ E : ℚ) ∧
      fSign F (fRound n F m neg N 1 E) = neg := by
  obtain ⟨mag, rounds, packed⟩ := fRound_eq_packRounded format m neg positive Nat.one_pos E
  rw [Nat.cast_one, div_one] at rounds
  have inside : mag < fInfMag F :=
    (rounds.le_of_le_magValIn (bound.trans_eq (magValIn_rat F j).symm)).trans_lt finite
  rw [packed]
  refine ⟨(finite_packRounded_iff format m neg mag).2 (.inr inside), ?_,
    fSign_packRounded format m neg mag⟩
  rw [val_eq_magVal, fSign_packRounded format, fMag_packRounded_of_lt format m neg mag inside,
    rounds.magVal_eq fits least]

end Exact

theorem fRoundInt_exact {n : Nat} {F : Fmt} (format : IsFormat n F) (m : RMode) {v E : Int}
    (nonzero : v ≠ 0)
    (fits : v.natAbs < 2 ^ (F.fracBits + 1)) (least : fMinExp F ≤ E) {j : Nat} (finite : j < fInfMag F)
    (bound : (v.natAbs : ℚ) * 2 ^ E ≤ magVal F j) :
    Claim.Finite F (fRoundInt n F m v E) ∧ val F (fRoundInt n F m v E) = v * 2 ^ E ∧
      fSign F (fRoundInt n F m v E) = decide (v < 0) := by
  obtain ⟨isFinite, value, sign⟩ := fRound_exact (m := m) (neg := decide (v < 0)) fits least format
    (Int.natAbs_pos.2 nonzero) finite bound
  refine ⟨isFinite, value.trans ?_, sign⟩
  rw [← sign_mul_natAbs v, withSign]
  split <;> ring

theorem fZero_exact {n : Nat} {F : Fmt} (format : IsFormat n F) (neg : Bool) :
    Claim.Finite F (fZero n F neg) ∧ val F (fZero n F neg) = 0 ∧ fSign F (fZero n F neg) = neg := by
  have mag : fMag F (fZero n F neg) = 0 := fMag_fPack (IsFormat.width format) (Nat.two_pow_pos _)
  refine ⟨(finite_iff F _).2 (by rw [mag]; exact fInfMag_pos format), ?_,
    fSign_fPack (IsFormat.width format) (Nat.two_pow_pos _)⟩
  rw [val_eq_magVal, mag, magVal_zero, withSign_zero]

/-! ### Widening a single -/

theorem fSig_lt {n : Nat} (F : Fmt) (a : BitVec n) : fSig F a < 2 ^ (F.fracBits + 1) := by
  have := fFrac_lt F a
  rw [fSig, Nat.pow_succ]
  split <;> omega

theorem fMinExp_le_fPow {n : Nat} (F : Fmt) (a : BitVec n) : fMinExp F ≤ fPow F a := by
  rw [fPow]
  omega

theorem natAbs_fInt {n : Nat} (F : Fmt) (a : BitVec n) : (fInt F a).natAbs = fSig F a := by
  rw [fInt]
  split
  · exact Int.natAbs_neg _
  · rfl

theorem fInt_neg_iff {n : Nat} {F : Fmt} {a : BitVec n} (notZero : fIsZero F a = false) :
    decide (fInt F a < 0) = fSign F a := by
  have positive := fSig_pos notZero
  rw [fInt]
  cases fSign F a
  · simp
  · simpa using positive

theorem abs_val_eq_fSig {n : Nat} (F : Fmt) (a : BitVec n) : |val F a| = fSig F a * 2 ^ fPow F a := by
  rw [val_eq_withSign, abs_withSign, abs_of_nonneg (by positivity)]

/-- Every finite single is below 2^128, a finite double. -/
theorem abs_val_single_le {a : BitVec 32} (finite : Claim.Finite f32 a) :
    |val f32 a| ≤ magVal f64 (1151 * 2 ^ 52) := by
  have top : magVal f32 (fInfMag f32) = magVal f64 (1151 * 2 ^ 52) :=
    (magVal_two_pow f32 254).trans (magVal_two_pow f64 1150).symm
  exact top ▸ (abs_val_lt_of_finite finite).le

theorem fConvert_single_exact (m : RMode) {a : BitVec 32} (finite : Claim.Finite f32 a) :
    ∃ b : BitVec 64, fConvert 64 f32 f64 m a = some b ∧ Claim.Finite f64 b ∧ val f64 b = val f32 a ∧
      fSign f64 b = fSign f32 a := by
  have format : IsFormat 64 f64 := .inr ⟨rfl, rfl⟩
  cases zero : fIsZero f32 a
  case true =>
    rw [(val_eq_zero_iff a).2 zero]
    exact ⟨_, by simp only [fConvert, finite.1, finite.2, zero]; rfl, fZero_exact format _⟩
  case false =>
    have positive := fSig_pos zero
    have bound := abs_val_single_le finite
    rw [abs_val_eq_fSig, ← natAbs_fInt] at bound
    rw [← fInt_neg_iff zero, val_eq_fInt f32]
    refine ⟨_, by simp only [fConvert, finite.1, finite.2, zero]; rfl,
      fRoundInt_exact format m ?_ ?_ ?_ ?_ bound⟩
    · rw [← Int.natAbs_pos, natAbs_fInt]
      exact positive
    · rw [natAbs_fInt]
      exact (fSig_lt f32 a).trans_le (by decide)
    · exact le_trans (by decide) (fMinExp_le_fPow f32 a)
    · decide

theorem eq_of_val_of_fSign {n : Nat} {F : Fmt} (format : IsFormat n F) {a b : BitVec n}
    (value : val F a = val F b) (sign : fSign F a = fSign F b) : a = b := by
  refine eq_of_fSign_of_fMag (IsFormat.width format) sign ((magVal_strictMono F).injective ?_)
  rw [← abs_val, ← abs_val, value]

/-- Widening a single does not depend on the direction. -/
theorem fConvert_single_rne (m : RMode) (a : BitVec 32) :
    fConvert 64 f32 f64 m a = fConvert 64 f32 f64 .rne a := by
  by_cases finite : Claim.Finite f32 a
  · obtain ⟨b, converts, -, value, sign⟩ := fConvert_single_exact m finite
    obtain ⟨c, converts', -, value', sign'⟩ := fConvert_single_exact .rne finite
    rw [converts, converts', eq_of_val_of_fSign (.inr ⟨rfl, rfl⟩) (value.trans value'.symm)
      (sign.trans sign'.symm)]
  · cases nan : fIsNan f32 a
    · have inf : fIsInf f32 a = true := by simpa [Claim.Finite, nan] using finite
      simp [fConvert, nan, inf]
    · simp [fConvert, nan]

end Sys2Proof.Machine

namespace Sys2Proof.Proofs

open Sys2Proof.Machine Sys2Proof.Claim

/-- Settles O57: both are numbers of at most 53 bits. -/
theorem exactConversions : Obligations.ExactConversions := by
  refine ⟨fun m a finite => fConvert_single_exact m finite, fun m v small => ?_⟩
  have format : IsFormat 64 f64 := .inr ⟨rfl, rfl⟩
  rw [fFromInt]
  split
  case isTrue zero =>
    obtain ⟨finite, value, -⟩ := fZero_exact format false
    exact ⟨finite, by rw [value, zero, Int.cast_zero]⟩
  case isFalse nonzero =>
    have bound : (v.natAbs : ℚ) * 2 ^ (0 : Int) ≤ magVal f64 (1055 * 2 ^ 52) := by
      have top : magVal f64 (1055 * 2 ^ 52) = (2 ^ 32 : Nat) :=
        (magVal_two_pow f64 1054).trans (by norm_num [fMinExp, fBias, fPrec, f64])
      rw [zpow_zero, mul_one, top]
      exact Nat.cast_le.2 small
    obtain ⟨finite, value, -⟩ := fRoundInt_exact format m nonzero (small.trans_lt (by decide)) (by decide)
      (by decide) bound
    exact ⟨finite, by rw [value, zpow_zero, mul_one]⟩

/-- Settles O47: each conversion returns its primitive's value; widening a single needs no direction. -/
theorem conversionsToFloat : Obligations.ConversionsToFloat := by
  intro s rd rs1 rm m v
  refine ⟨?_, ?_, ?_, ?_, ?_, ?fcvtDS, ?_, fun rv64 => ⟨?_, ?_, ?_, ?_, ?_⟩⟩
  case fcvtDS =>
    rw [← fConvert_single_rne m]
    exact returnsD_of_exec rfl
  iterate 2 · exact returnsS_of_exec rfl
  iterate 2 · exact returnsD_of_exec rfl
  iterate 2 · exact returnsS_of_exec rfl
  · exact returnsD_of_exec (exec_of_onlyAt rv64 rfl)
  iterate 2 · exact returnsS_of_exec (exec_of_onlyAt rv64 rfl)
  iterate 2 · exact returnsD_of_exec (exec_of_onlyAt rv64 rfl)

end Sys2Proof.Proofs
end

section
/-! PROOF. The square root (47_float_single R346): the integer root, why the one more bit rounds as the true
root does, and the correctly rounded result. -/

namespace Sys2Proof.Machine

open Sys2Proof.Claim

/-! ### The integer root -/

theorem isqrtFrom_spec (v : Nat) : ∀ k r : Nat, r * r ≤ v → v < (r + 2 ^ k) * (r + 2 ^ k) →
    isqrtFrom v k r * isqrtFrom v k r ≤ v ∧ v < (isqrtFrom v k r + 1) * (isqrtFrom v k r + 1)
  | 0, _, low, high => ⟨low, high⟩
  | k + 1, r, low, high => by
    rw [isqrtFrom]
    split
    case isTrue fits =>
      exact isqrtFrom_spec v k _ fits (by rwa [Nat.add_assoc, ← Nat.two_mul, ← Nat.pow_succ'])
    case isFalse tooMuch => exact isqrtFrom_spec v k r low (Nat.lt_of_not_le tooMuch)

theorem isqrt_spec (v : Nat) : isqrt v * isqrt v ≤ v ∧ v < (isqrt v + 1) * (isqrt v + 1) := by
  refine isqrtFrom_spec v _ 0 (Nat.zero_le v) ?_
  rw [Nat.zero_add, ← Nat.pow_add]
  exact Nat.lt_log2_self.trans_le (Nat.pow_le_pow_right two_pos (by omega))

/-- The integer root with the bit that says whether it is exact, as `fRoundSqrt` rounds it. -/
def rootWithSticky (v : Nat) : Nat := 2 * isqrt v + if isqrt v * isqrt v = v then 0 else 1

/-- Against twice an integer it compares as the radicand does against the integer's square. -/
theorem rootWithSticky_compare (v z : Nat) :
    (rootWithSticky v ≤ 2 * z ↔ v ≤ z * z) ∧ (rootWithSticky v < 2 * z ↔ v < z * z) := by
  obtain ⟨low, high⟩ := isqrt_spec v
  rw [rootWithSticky]
  rcases Nat.lt_or_ge (isqrt v) z with above | below
  · have square : (isqrt v + 1) * (isqrt v + 1) ≤ z * z := Nat.mul_le_mul above above
    constructor <;> split <;> omega
  · have square : z * z ≤ isqrt v * isqrt v := Nat.mul_le_mul below below
    have equal (exact : isqrt v * isqrt v = v) : v ≤ z * z ↔ isqrt v ≤ z := by
      rw [← Nat.mul_self_le_mul_self_iff (m := isqrt v), exact]
    constructor
    · split
      case isTrue exact => rw [equal exact]; omega
      case isFalse inexact => omega
    · split <;> omega

/-! ### A rounding of one number that rounds another -/

/-- `x` and `y` compare alike with `w`. -/
def Alike (x : ℚ) (y : ℝ) (w : ℚ) : Prop := (x ≤ w ↔ y ≤ (w : ℝ)) ∧ (x < w ↔ y < (w : ℝ))

theorem Alike.eq_iff {x : ℚ} {y : ℝ} {w : ℚ} (alike : Alike x y w) : x = w ↔ y = (w : ℝ) := by
  obtain ⟨le, lt⟩ := alike
  rw [eq_iff_le_not_lt, eq_iff_le_not_lt, le, lt]

theorem magValIn_real (F : Fmt) (k : Nat) : magValIn ℝ F k = (magVal F k : ℝ) := rfl

theorem halfway_real (F : Fmt) (k : Nat) : halfway ℝ F k = (halfway ℚ F k : ℝ) := by
  rw [halfway, halfway, magValIn_rat, magValIn_rat, magValIn_real, magValIn_real]
  push_cast
  rfl

theorem roundsUpIn_alike {F : Fmt} {m : RMode} {neg : Bool} {x : ℚ} {y : ℝ} {k : Nat}
    (low : Alike x y (magVal F k)) (middle : Alike x y (halfway ℚ F k)) :
    RoundsUpIn F m neg k x ↔ RoundsUpIn F m neg k y := by
  have above : halfway ℚ F k < x ↔ (halfway ℚ F k : ℝ) < y := by rw [← not_le, middle.1, not_le]
  have atLeast : halfway ℚ F k ≤ x ↔ (halfway ℚ F k : ℝ) ≤ y := by rw [← not_lt, middle.2, not_lt]
  cases m
  case rne => rw [RoundsUpIn, RoundsUpIn, halfway_real, above, middle.eq_iff]
  case rtz => rfl
  case rdn | rup => rw [RoundsUpIn, RoundsUpIn, magValIn_rat, magValIn_real, ne_eq, ne_eq, low.eq_iff]
  case rmm => rw [RoundsUpIn, RoundsUpIn, halfway_real, atLeast]

/-- Where two numbers compare alike with the neighbours of one and their middle, what one rounds to the
other does. -/
theorem RoundsTo.of_alike {F : Fmt} {m : RMode} {neg : Bool} {x : ℚ} {y : ℝ} {mag : Nat}
    (rounds : RoundsTo F m neg x mag)
    (alike : ∀ k, magVal F k ≤ x → x < magVal F (k + 1) → Alike x y (magVal F k) ∧
      Alike x y (halfway ℚ F k) ∧ Alike x y (magVal F (k + 1))) : RoundsTo F m neg y mag := by
  obtain ⟨k, low, high, rounded⟩ := rounds
  rw [magValIn_rat] at low high
  obtain ⟨alikeLow, alikeMiddle, alikeHigh⟩ := alike k low high
  refine ⟨k, ?_, alikeHigh.2.1 high, ?_⟩
  · rw [← not_lt, alikeLow.2, not_lt] at low
    exact low
  · rwa [← roundsUpIn_alike alikeLow alikeMiddle]

/-- The neighbours of a number and their middle, in units of half its last place, are integers, and the
number is below twice the precision's power of these units. -/
theorem halfUnits (F : Fmt) (k : Nat) : ∃ (N : Nat) (Q : Int), magVal F k = (2 * N : Nat) * 2 ^ Q ∧
    halfway ℚ F k = (2 * N + 1 : Nat) * 2 ^ Q ∧ magVal F (k + 1) = (2 * N + 2 : Nat) * 2 ^ Q ∧
    2 * N + 2 ≤ 2 ^ (F.fracBits + 2) := by
  obtain ⟨q, r, rfl, normal, small⟩ := exists_units F k
  have low := magVal_units F normal small.le
  have high := magVal_units F (r := r + 1) (normal.imp_right Nat.le_succ_of_le) small
  rw [← Nat.add_assoc] at high
  have unit : (2 : ℚ) ^ ((q : Int) + fMinExp F) = 2 * 2 ^ ((q : Int) + fMinExp F - 1) := by
    rw [← zpow_one_add₀ two_ne_zero, add_sub_cancel]
  rw [unit] at low high
  refine ⟨r, (q : Int) + fMinExp F - 1, ?_, ?_, ?_, ?_⟩
  · rw [low]
    push_cast
    ring
  · rw [halfway, magValIn_rat, magValIn_rat, low, high]
    push_cast
    ring
  · rw [high]
    push_cast
    ring
  · rw [Nat.pow_succ]
    omega

/-! ### The scaled root -/

section Root
variable (v : Nat) (H : Int)

theorem units_eq_halfUnits (z : Nat) : (z : ℚ) * 2 ^ H = (2 * z : Nat) * 2 ^ (H - 1) := by
  rw [zpow_sub_one₀ two_ne_zero]
  push_cast
  ring

theorem alike_root (z : Nat) :
    Alike (rootWithSticky v * 2 ^ (H - 1)) (√(v : ℝ) * 2 ^ H) (z * 2 ^ H) := by
  obtain ⟨le, lt⟩ := rootWithSticky_compare v z
  have halfUnit : (0 : ℚ) < 2 ^ (H - 1) := by positivity
  have unit : (0 : ℝ) < 2 ^ H := by positivity
  have doubled := units_eq_halfUnits H z
  have root : (z : ℝ) = √((z * z : Nat) : ℝ) := by
    rw [Nat.cast_mul, Real.sqrt_mul_self (Nat.cast_nonneg z)]
  constructor
  · rw [doubled, mul_le_mul_iff_left₀ halfUnit, Nat.cast_le, le, ← doubled]
    push_cast
    rw [mul_le_mul_iff_left₀ unit, root, Real.sqrt_le_sqrt_iff (Nat.cast_nonneg _), Nat.cast_le]
  · rw [doubled, mul_lt_mul_iff_left₀ halfUnit, Nat.cast_lt, lt, ← doubled]
    push_cast
    rw [mul_lt_mul_iff_left₀ unit, root, Real.sqrt_lt_sqrt_iff (Nat.cast_nonneg _), Nat.cast_lt]

/-- A scaled root of enough bits rounds as the true root. -/
theorem RoundsTo.root {F : Fmt} {m : RMode} {mag : Nat} (enough : (2 ^ (F.fracBits + 2)) ^ 2 ≤ v)
    (rounds : RoundsTo F m false ((rootWithSticky v : ℚ) * 2 ^ (H - 1)) mag) :
    RoundsTo F m false (√(v : ℝ) * 2 ^ H) mag := by
  refine rounds.of_alike fun k low high => ?_
  obtain ⟨N, Q, lowUnits, middleUnits, highUnits, few⟩ := halfUnits F k
  have many : ((2 ^ (F.fracBits + 2) : Nat) : ℚ) * 2 ^ H ≤ rootWithSticky v * 2 ^ (H - 1) := by
    rw [units_eq_halfUnits]
    gcongr
    rw [← not_lt, (rootWithSticky_compare v _).2, not_lt, ← Nat.pow_two]
    exact enough
  have place : H ≤ Q := by
    have few : ((2 * N + 2 : Nat) : ℚ) ≤ (2 ^ (F.fracBits + 2) : Nat) := Nat.cast_le.2 few
    rw [highUnits] at high
    refine ((zpow_lt_zpow_iff_right₀ (one_lt_two (α := ℚ))).1 (lt_of_mul_lt_mul_left
      (many.trans_lt (high.trans_le ?_)) (Nat.cast_nonneg _))).le
    gcongr
  obtain ⟨d, rfl⟩ := Int.le.dest place
  have multiple (M : Nat) : (M : ℚ) * 2 ^ (H + d) = (M * 2 ^ d : Nat) * 2 ^ H := by
    rw [zpow_add₀ two_ne_zero, zpow_natCast]
    push_cast
    ring
  rw [lowUnits, middleUnits, highUnits, multiple, multiple, multiple]
  exact ⟨alike_root v H _, alike_root v H _, alike_root v H _⟩

end Root

theorem sqrt_scaled (sig t : Nat) (e H : Int) (even : 2 * H = e - t) :
    √(((sig : ℚ) * 2 ^ e : ℚ) : ℝ) = √((sig * 2 ^ t : Nat) : ℝ) * 2 ^ H := by
  have unit : (0 : ℝ) ≤ 2 ^ H := by positivity
  rw [← Real.sqrt_sq unit, ← Real.sqrt_mul (Nat.cast_nonneg _)]
  congr 1
  push_cast
  rw [mul_assoc, ← zpow_natCast 2 t, ← zpow_natCast ((2 : ℝ) ^ H) 2, ← zpow_mul, ← zpow_add₀ two_ne_zero]
  congr 2
  push_cast
  omega

theorem fRoundSqrt_eq_packRounded {n : Nat} {F : Fmt} (format : IsFormat n F) (m : RMode) {sig : Nat}
    (positive : 0 < sig) (e : Int) :
    ∃ mag, RoundsTo F m false (√(((sig : ℚ) * 2 ^ e : ℚ) : ℝ)) mag ∧
      fRoundSqrt n F m sig e = packRounded n F m false mag := by
  rw [fRoundSqrt]
  set t := 2 * (fPrec F + 2) + (e % 2).toNat
  have radicand : 0 < sig * 2 ^ t := Nat.mul_pos positive (Nat.two_pow_pos t)
  have root : 0 < rootWithSticky (sig * 2 ^ t) := by
    have := (rootWithSticky_compare (sig * 2 ^ t) 1).2
    omega
  obtain ⟨mag, rounds, packed⟩ := fRound_eq_packRounded format m false root Nat.one_pos ((e - t) / 2 - 1)
  rw [Nat.cast_one, div_one] at rounds
  refine ⟨mag, ?_, packed⟩
  rw [sqrt_scaled sig t e ((e - t) / 2) (by omega)]
  refine rounds.root _ _ ?_
  calc (2 ^ (F.fracBits + 2)) ^ 2 = 2 ^ ((F.fracBits + 2) * 2) := (Nat.pow_mul ..).symm
    _ ≤ 2 ^ t := Nat.pow_le_pow_right two_pos (by simp only [t, fPrec]; omega)
    _ ≤ sig * 2 ^ t := Nat.le_mul_of_pos_left _ positive

/-! ### The correctly rounded root -/

section Result
variable {n : Nat} {F : Fmt} (format : IsFormat n F)
include format

/-- The magnitude of 1. -/
theorem magVal_one : magVal F (fBias F * 2 ^ F.fracBits) = 1 := by
  rcases format with ⟨-, rfl⟩ | ⟨-, rfl⟩
  · exact magVal_two_pow f32 126
  · exact magVal_two_pow f64 1022

theorem one_mag_bounds : 0 < fBias F * 2 ^ F.fracBits ∧ fBias F * 2 ^ F.fracBits < fInfMag F := by
  rcases format with ⟨-, rfl⟩ | ⟨-, rfl⟩ <;> decide

/-- The root of a magnitude lies between it and 1, and so does its rounding. -/
theorem RoundsTo.root_bounds {m : RMode} {k mag : Nat}
    (rounds : RoundsTo F m false (√(magVal F k : ℝ)) mag)
    (positive : 0 < k) (finite : k < fInfMag F) : 0 < mag ∧ mag < fInfMag F := by
  obtain ⟨onePos, oneFinite⟩ := one_mag_bounds format
  have one : magValIn ℝ F (fBias F * 2 ^ F.fracBits) = 1 := by
    rw [magValIn_real, magVal_one format, Rat.cast_one]
  rcases le_total (magVal F k : ℝ) 1 with small | large
  · have below := rounds.ge_of_magValIn_le (j := k) (Real.le_sqrt_self_iff.2 small)
    have above := rounds.le_of_le_magValIn (one ▸ Real.sqrt_le_one.2 small)
    omega
  · have below := rounds.ge_of_magValIn_le (one ▸ Real.one_le_sqrt.2 large)
    have above := rounds.le_of_le_magValIn (j := k) (Real.sqrt_le_self_iff.2 (.inr large))
    omega

/-- The square root of a positive finite value is the pattern of a positive finite magnitude that the
true root rounds to. -/
theorem fSqrt_eq_fPack (m : RMode) {a : BitVec n} (finite : Claim.Finite F a) (positive : 0 < val F a) :
    ∃ mag, 0 < mag ∧ mag < fInfMag F ∧ RoundsTo F m false (√(val F a : ℝ)) mag ∧
      fSqrt F m a = some (fPack n F false mag) := by
  have notZero := not_fIsZero_of_val_ne_zero positive.ne'
  have magnitude : val F a = magVal F (fMag F a) := by rw [← abs_val, abs_of_pos positive]
  have sign : fSign F a = false := by
    rw [← Bool.not_eq_true]
    intro negative
    rw [val_eq_magVal, negative] at positive
    exact absurd positive (neg_nonpos.2 (magVal_nonneg F _)).not_gt
  have significand : val F a = fSig F a * 2 ^ fPow F a := by rw [← abs_val_eq_fSig, abs_of_pos positive]
  obtain ⟨mag, rounds, packed⟩ := fRoundSqrt_eq_packRounded format m (fSig_pos notZero) (fPow F a)
  rw [← significand] at rounds
  have magPos : 0 < fMag F a := Nat.pos_of_ne_zero fun zero =>
    Bool.noConfusion (notZero.symm.trans ((fIsZero_iff F a).2 zero))
  obtain ⟨isPos, isFinite⟩ := (magnitude ▸ rounds).root_bounds format magPos ((finite_iff F a).1 finite)
  refine ⟨mag, isPos, isFinite, rounds, ?_⟩
  simp only [fSqrt, finite.1, finite.2, notZero, sign, packed, packRounded, if_neg (Nat.not_le.2 isFinite)]
  rfl

theorem val_fPack_positive {mag : Nat} (finite : mag < fInfMag F) :
    Claim.Finite F (fPack n F false mag) ∧ val F (fPack n F false mag) = magVal F mag := by
  have fits := finite.trans (fInfMag_lt F)
  rw [finite_iff, val_eq_magVal, fMag_fPack (IsFormat.width format) fits,
    fSign_fPack (IsFormat.width format) fits]
  exact ⟨finite, rfl⟩

end Result
end Sys2Proof.Machine

namespace Sys2Proof.Proofs

open Sys2Proof.Machine Sys2Proof.Claim

/-- Settles O53: the scaled integer root rounds as the true root, which lies between the operand and 1. -/
theorem squareRootIsCorrectlyRounded : Obligations.SquareRootIsCorrectlyRounded := by
  intro n F m a format finite positive
  obtain ⟨mag, isPos, isFinite, rounds, result⟩ := fSqrt_eq_fPack format m finite positive
  obtain ⟨finiteB, value⟩ := val_fPack_positive (n := n) format isFinite
  have mono := magVal_strictMono F
  have nonneg : (0 : ℝ) ≤ val F a := Rat.cast_nonneg.2 positive.le
  have below {q : ℚ} (qNonneg : 0 ≤ q) : (q : ℝ) ≤ √(val F a : ℝ) ↔ q ^ 2 ≤ val F a := by
    rw [Real.le_sqrt (Rat.cast_nonneg.2 qNonneg) nonneg]
    norm_cast
  have above {q : ℚ} (qNonneg : 0 ≤ q) : √(val F a : ℝ) ≤ q ↔ val F a ≤ q ^ 2 := by
    rw [Real.sqrt_le_left (Rat.cast_nonneg.2 qNonneg)]
    norm_cast
  have magnitude {c : BitVec n} (cNonneg : 0 ≤ val F c) : val F c = magVal F (fMag F c) := by
    rw [← abs_val, abs_of_nonneg cNonneg]
  refine ⟨_, result, finiteB, ?_, ?_, ?_, ?_⟩ <;> rw [value]
  · rw [← magVal_zero F]
    exact mono isPos
  · intro direction
    have truncated : truncates m false = true := by rcases direction with rfl | rfl <;> rfl
    refine ⟨(below (magVal_nonneg F mag)).1 (rounds.magValIn_le truncated), fun c _ cNonneg small => ?_⟩
    rw [← below cNonneg, magnitude cNonneg] at small
    rw [magnitude cNonneg]
    exact mono.monotone (rounds.ge_of_magValIn_le small)
  · rintro rfl
    refine ⟨(above (magVal_nonneg F mag)).1 (rounds.le_magValIn (.inr rfl) rfl),
      fun c _ cNonneg large => ?_⟩
    rw [← above cNonneg, magnitude cNonneg] at large
    rw [magnitude cNonneg]
    exact mono.monotone (rounds.le_of_le_magValIn large)
  · intro direction c _
    calc |(magVal F mag : ℝ) - √(val F a : ℝ)| ≤ |(magVal F (fMag F c) : ℝ) - √(val F a : ℝ)| := by
          by_cases same : fMag F c = mag
          · rw [same]
          · exact (rounds.nearest direction same).1
      _ = |(|(val F c : ℝ)| - |√(val F a : ℝ)|)| := by
          rw [← abs_val, Rat.cast_abs, abs_of_nonneg (Real.sqrt_nonneg _)]
      _ ≤ |(val F c : ℝ) - √(val F a : ℝ)| := abs_abs_sub_abs_le _ _

end Sys2Proof.Proofs
end
